-- ==== Sys2Proof/Word.lean ====
section
/-! DEFINITION. The byte of the two serial ports, the character that carries it, and the colour triple. -/

namespace Sys2Proof

/-- Every quantity on either port travels in whole bytes (R183). -/
abbrev Byte := BitVec 8

/-- One good character of a line: its mark bit (1 in an address character) and its eight data bits (R169). -/
structure LineChar where
  mark  : Bool
  value : Byte
  deriving DecidableEq, Repr

/-- One value for each of the three channels, in wire order red, green, blue (R183). -/
structure PerChannel (α : Type) where
  red   : α
  green : α
  blue  : α
  deriving DecidableEq, Repr

def PerChannel.map {α β : Type} (f : α → β) (c : PerChannel α) : PerChannel β :=
  ⟨f c.red, f c.green, f c.blue⟩

def PerChannel.zipWith {α β γ : Type} (f : α → β → γ) (c : PerChannel α) (e : PerChannel β) : PerChannel γ :=
  ⟨f c.red e.red, f c.green e.green, f c.blue e.blue⟩

def PerChannel.any {α : Type} (p : α → Bool) (c : PerChannel α) : Bool :=
  p c.red || p c.green || p c.blue

def PerChannel.toList {α : Type} (c : PerChannel α) : List α := [c.red, c.green, c.blue]

end Sys2Proof
end

