-- ==== Sys2Proof/Syntax.lean ====
section
/-! DEFINITION. The commands of the part: one constructor of `Instr` for each row of spec/opcode_table.json, and
the requests of the message catalogue (11.7) with their bodies' fields as they stand on the wire. Enumerations,
flags and sets stay bytes here, since a request may carry a code that its rule refuses (R183). -/

namespace Sys2Proof

/-- What a request frame says beside its kind and body: the tag that its reply echoes, and whether it came to
this unit alone or to all (R171, R173). -/
structure Envelope where
  tag       : Byte
  broadcast : Bool
  deriving DecidableEq, Repr

/-- A frame reference as carried: mode code and signed 32-bit value (R81, R183). -/
structure FrameRef where
  mode : Byte
  value : BitVec 32
  deriving DecidableEq, Repr

/-- The location of ENROL_REEL: type byte (slot 0, at suite 1), then the slot or the zone (R183). -/
structure LocationOperand where
  kind : Byte
  value : BitVec 16
  deriving DecidableEq, Repr

/-- The body of ENROL_REEL, field by field in wire order (R1, R183). -/
structure EnrolOperands where
  reelId : BitVec 32
  gauge : Byte
  length : BitVec 16
  label : BitVec 32
  cls : Byte
  permit : Byte
  shrinkage : BitVec 16
  passes : Byte
  fade : PerChannel (BitVec 16)
  home : Byte
  location : LocationOperand
  deriving DecidableEq, Repr

/-- The body of SET_CONDITION (R14). -/
structure ConditionOperands where
  reelId : BitVec 32
  cls : Byte
  permit : Byte
  fade : PerChannel (BitVec 16)
  deriving DecidableEq, Repr

/-- The body of SET_TRANSPORT (R49). -/
structure TransportOperands where
  threadingTime : Byte
  faultTime : BitVec 16
  retryPolicy : Byte
  relaxTime : BitVec 16
  slipMargin : BitVec 16
  slipAction : Byte
  limitCap : BitVec 16
  deriving DecidableEq, Repr

/-- The body of ADD_DEFECT (R112). -/
structure AddDefectOperands where
  ref : FrameRef
  count : Byte
  kind : Byte
  severity : Byte
  detail : BitVec 16
  deriving DecidableEq, Repr

/-- The body of LIST_DEFECTS (R116). -/
structure ListDefectsOperands where
  start : BitVec 16
  first : BitVec 16
  last : BitVec 16
  kinds : Byte
  states : Byte
  deriving DecidableEq, Repr

/-- One channel of a rule record: b, g, o and p (12.5). -/
structure ChannelRuleOperands where
  black : BitVec 16
  gain : BitVec 16
  offset : BitVec 16
  trim : Byte
  deriving DecidableEq, Repr

/-- The rule record, the body of SET_RULE (R145, 12.5). -/
structure RuleOperands where
  rule : Byte
  enabled : Byte
  key : BitVec 32
  length : Byte
  channels : PerChannel ChannelRuleOperands
  fadeMode : Byte
  fixedFade : BitVec 16
  fadeGain : Byte
  exclude : Byte
  deriving DecidableEq, Repr

/-- The request kinds of the message catalogue (11.7). -/
inductive Kind where
  | identify | restartSuite | snapshotCounters | readCounters | clearCounters | readClock 
  | adjustClock | trimClock | enrolReel | withdrawReel | requestReel | reelArrived | loadReel 
  | unloadReel | reelPlaced | recallReel | setCondition | grantPasses | reelStatus | listReels 
  | closeSlot | openSlot | setZoneTime | setZonePolicy | slotStatus | listHold | zoneStatus 
  | setTransport | runPass | stop | release | readIncident | clearIncident | transportStatus | setHead 
  | setMark | trackerStatus | setCapture | captureStatus | addDefect | queueDefect | waiveDefect 
  | requeueDefect | listDefects | defectSummary | setDefectPolicy | setStation | takeWork | returnWork 
  | completeWork | undoRepair | queueStatus | listQueue | defineShot | deleteShot | lockShot 
  | unlockShot | listShots | setRule | clearRule | setFadeWindow | clearExtremes | fadeStatus 
  | evaluateGrade | fetchNotices | setAttentionMask
  deriving DecidableEq, Repr

/-- One request of the message catalogue with its body's fields in wire order (11.7, R183). -/
inductive Request where
  | identify
  | restartSuite
  | snapshotCounters (clear : Byte)
  | readCounters
  | clearCounters
  | readClock
  | adjustClock (seconds : BitVec 32) (micros : BitVec 32)
  | trimClock (trim : BitVec 16)
  | enrolReel (op : EnrolOperands)
  | withdrawReel (reelId : BitVec 32)
  | requestReel (reelId : BitVec 32)
  | reelArrived (reelId : BitVec 32)
  | loadReel (reelId : BitVec 32) (head : Option (BitVec 16))
  | unloadReel (force : Byte)
  | reelPlaced (reelId : BitVec 32) (slot : BitVec 16)
  | recallReel (reelId : BitVec 32)
  | setCondition (op : ConditionOperands)
  | grantPasses (reelId : BitVec 32) (passes : Byte)
  | reelStatus (reelId : BitVec 32)
  | listReels (start : BitVec 32)
  | closeSlot (slot : BitVec 16)
  | openSlot (slot : BitVec 16)
  | setZoneTime (zone : Byte) (minutes : BitVec 16)
  | setZonePolicy (cls : Byte) (mask : Byte)
  | slotStatus (slot : BitVec 16)
  | listHold (start : Byte)
  | zoneStatus (zone : Byte)
  | setTransport (op : TransportOperands)
  | runPass (first : FrameRef) (last : FrameRef) (speed : Byte)
  | stop
  | release
  | readIncident
  | clearIncident
  | transportStatus
  | setHead (ref : FrameRef)
  | setMark (mark : Byte) (ref : FrameRef)
  | trackerStatus
  | setCapture (timeout : BitVec 16) (dust : BitVec 16) (scratch : BitVec 16)
  | captureStatus
  | addDefect (op : AddDefectOperands)
  | queueDefect (defect : BitVec 16) (priority : Byte)
  | waiveDefect (defect : BitVec 16)
  | requeueDefect (defect : BitVec 16) (priority : Byte)
  | listDefects (op : ListDefectsOperands)
  | defectSummary
  | setDefectPolicy (kind : Byte) (threshold : Byte)
  | setStation (station : Byte) (enabled : Byte) (mask : Byte)
  | takeWork (station : Byte)
  | returnWork (station : Byte) (defect : BitVec 16)
  | completeWork (station : Byte) (defect : BitVec 16) (outcome : Byte)
  | undoRepair
  | queueStatus
  | listQueue (priority : Byte) (start : Byte)
  | defineShot (ref : FrameRef) (label : BitVec 32)
  | deleteShot (index : BitVec 16)
  | lockShot (index : BitVec 16)
  | unlockShot (index : BitVec 16)
  | listShots (start : BitVec 16)
  | setRule (op : RuleOperands)
  | clearRule (rule : Byte)
  | setFadeWindow (exponent : Byte)
  | clearExtremes
  | fadeStatus
  | evaluateGrade (ref : FrameRef) (density : PerChannel (BitVec 16))
  | fetchNotices
  | setAttentionMask (mask : BitVec 16)
  deriving DecidableEq, Repr

/-- The commands, in the order of spec/opcode_table.json. A per-kind request command hands HL a good request of
that kind (DESIGN CHOICE, log 1); REQUEST_FRAME and FRAME_REPORT carry a run of good characters of their line
(DESIGN CHOICE, log 3). -/
inductive Instr where
  /-- FULL_RESET (R182) -/
  | fullReset (addressPins : BitVec 3) (ratePins : BitVec 2)
  /-- RUN_COUNTER_TICK (R39) -/
  | runCounterTick
  /-- SUITE_CLOCK_TICK (R38) -/
  | suiteClockTick
  /-- TENSION_SAMPLE (R48) -/
  | tensionSample (feed : BitVec 12) (takeUp : BitVec 12)
  /-- FILM_PRESENT_RISES (R50) -/
  | filmPresentRises
  /-- FILM_PRESENT_FALLS (R52) -/
  | filmPresentFalls
  /-- PERFORATION_EDGE (R72) -/
  | perforationEdge (position : BitVec 32)
  /-- ACCLIMATIZATION_EXPIRY (R7) -/
  | acclimatizationExpiry (reelId : BitVec 32)
  /-- REPORT_DEADLINE_EXPIRY (R99) -/
  | reportDeadlineExpiry (tag : Byte)
  /-- THREADING_TIMER_EXPIRY (R51) -/
  | threadingTimerExpiry
  /-- RELAX_TIMER_EXPIRY (R61) -/
  | relaxTimerExpiry
  /-- STRAIN_WARNING_PERSISTENCE_EXPIRY (R62) -/
  | strainWarningPersistenceExpiry
  /-- SLIP_PERSISTENCE_EXPIRY (R64) -/
  | slipPersistenceExpiry
  /-- REQUEST_FRAME (R172) -/
  | requestFrame (chars : List LineChar)
  /-- HOST_CHARACTER_ERROR (R172) -/
  | hostCharacterError
  /-- HOST_GAP_TIMEOUT (R172) -/
  | hostGapTimeout
  /-- HOST_BREAK (R170) -/
  | hostBreak
  /-- FRAME_REPORT (R93) -/
  | frameReport (chars : List LineChar)
  /-- PIPELINE_CHARACTER_ERROR (R178) -/
  | pipelineCharacterError
  /-- PIPELINE_GAP_TIMEOUT (R178) -/
  | pipelineGapTimeout
  /-- PIPELINE_BREAK (R178) -/
  | pipelineBreak
  /-- CAPTURE_ORDER_SENT (R179) -/
  | captureOrderSent
  /-- REPLY_START (R176) -/
  | replyStart
  /-- REPLY_COMPLETE (R176) -/
  | replyComplete
  /-- COLLISION (R177) -/
  | collision (position : Nat)
  /-- UNKNOWN_REQUEST_KIND (R175) -/
  | unknownRequestKind (via : Envelope) (kind : Byte) (body : List Byte)
  /-- IDENTIFY (R180) -/
  | identify (via : Envelope)
  /-- RESTART_SUITE (R181) -/
  | restartSuite (via : Envelope)
  /-- SNAPSHOT_COUNTERS (R166) -/
  | snapshotCounters (via : Envelope) (clear : Byte)
  /-- READ_COUNTERS (R166) -/
  | readCounters (via : Envelope)
  /-- CLEAR_COUNTERS (R167) -/
  | clearCounters (via : Envelope)
  /-- READ_CLOCK (R40) -/
  | readClock (via : Envelope)
  /-- ADJUST_CLOCK (R41) -/
  | adjustClock (via : Envelope) (seconds : BitVec 32) (micros : BitVec 32)
  /-- TRIM_CLOCK (R42) -/
  | trimClock (via : Envelope) (trim : BitVec 16)
  /-- ENROL_REEL (R3) -/
  | enrolReel (via : Envelope) (op : EnrolOperands)
  /-- WITHDRAW_REEL (R4) -/
  | withdrawReel (via : Envelope) (reelId : BitVec 32)
  /-- REQUEST_REEL (R5) -/
  | requestReel (via : Envelope) (reelId : BitVec 32)
  /-- REEL_ARRIVED (R6) -/
  | reelArrived (via : Envelope) (reelId : BitVec 32)
  /-- LOAD_REEL (R8) -/
  | loadReel (via : Envelope) (reelId : BitVec 32) (head : Option (BitVec 16))
  /-- UNLOAD_REEL (R9) -/
  | unloadReel (via : Envelope) (force : Byte)
  /-- REEL_PLACED (R12) -/
  | reelPlaced (via : Envelope) (reelId : BitVec 32) (slot : BitVec 16)
  /-- RECALL_REEL (R13) -/
  | recallReel (via : Envelope) (reelId : BitVec 32)
  /-- SET_CONDITION (R14) -/
  | setCondition (via : Envelope) (op : ConditionOperands)
  /-- GRANT_PASSES (R15) -/
  | grantPasses (via : Envelope) (reelId : BitVec 32) (passes : Byte)
  /-- REEL_STATUS (R19) -/
  | reelStatus (via : Envelope) (reelId : BitVec 32)
  /-- LIST_REELS (R19) -/
  | listReels (via : Envelope) (start : BitVec 32)
  /-- CLOSE_SLOT (R24) -/
  | closeSlot (via : Envelope) (slot : BitVec 16)
  /-- OPEN_SLOT (R25) -/
  | openSlot (via : Envelope) (slot : BitVec 16)
  /-- SET_ZONE_TIME (R26) -/
  | setZoneTime (via : Envelope) (zone : Byte) (minutes : BitVec 16)
  /-- SET_ZONE_POLICY (R28) -/
  | setZonePolicy (via : Envelope) (cls : Byte) (mask : Byte)
  /-- SLOT_STATUS (R34) -/
  | slotStatus (via : Envelope) (slot : BitVec 16)
  /-- LIST_HOLD (R35) -/
  | listHold (via : Envelope) (start : Byte)
  /-- ZONE_STATUS (R36) -/
  | zoneStatus (via : Envelope) (zone : Byte)
  /-- SET_TRANSPORT (R49) -/
  | setTransport (via : Envelope) (op : TransportOperands)
  /-- RUN_PASS (R53) -/
  | runPass (via : Envelope) (first : FrameRef) (last : FrameRef) (speed : Byte)
  /-- STOP (R56) -/
  | stop (via : Envelope)
  /-- RELEASE (R66) -/
  | release (via : Envelope)
  /-- READ_INCIDENT (R68) -/
  | readIncident (via : Envelope)
  /-- CLEAR_INCIDENT (R68) -/
  | clearIncident (via : Envelope)
  /-- TRANSPORT_STATUS (R69) -/
  | transportStatus (via : Envelope)
  /-- SET_HEAD (R82) -/
  | setHead (via : Envelope) (ref : FrameRef)
  /-- SET_MARK (R83) -/
  | setMark (via : Envelope) (mark : Byte) (ref : FrameRef)
  /-- TRACKER_STATUS (R84) -/
  | trackerStatus (via : Envelope)
  /-- SET_CAPTURE (R87) -/
  | setCapture (via : Envelope) (timeout : BitVec 16) (dust : BitVec 16) (scratch : BitVec 16)
  /-- CAPTURE_STATUS (R101) -/
  | captureStatus (via : Envelope)
  /-- ADD_DEFECT (R112) -/
  | addDefect (via : Envelope) (op : AddDefectOperands)
  /-- QUEUE_DEFECT (R113) -/
  | queueDefect (via : Envelope) (defect : BitVec 16) (priority : Byte)
  /-- WAIVE_DEFECT (R114) -/
  | waiveDefect (via : Envelope) (defect : BitVec 16)
  /-- REQUEUE_DEFECT (R115) -/
  | requeueDefect (via : Envelope) (defect : BitVec 16) (priority : Byte)
  /-- LIST_DEFECTS (R116) -/
  | listDefects (via : Envelope) (op : ListDefectsOperands)
  /-- DEFECT_SUMMARY (R117) -/
  | defectSummary (via : Envelope)
  /-- SET_DEFECT_POLICY (R111) -/
  | setDefectPolicy (via : Envelope) (kind : Byte) (threshold : Byte)
  /-- SET_STATION (R125) -/
  | setStation (via : Envelope) (station : Byte) (enabled : Byte) (mask : Byte)
  /-- TAKE_WORK (R126) -/
  | takeWork (via : Envelope) (station : Byte)
  /-- RETURN_WORK (R128) -/
  | returnWork (via : Envelope) (station : Byte) (defect : BitVec 16)
  /-- COMPLETE_WORK_REPAIRED (R129) -/
  | completeWorkRepaired (via : Envelope) (station : Byte) (defect : BitVec 16)
  /-- COMPLETE_WORK_UNREPAIRABLE (R130) -/
  | completeWorkUnrepairable (via : Envelope) (station : Byte) (defect : BitVec 16)
  /-- UNDO_REPAIR (R133) -/
  | undoRepair (via : Envelope)
  /-- QUEUE_STATUS (R135) -/
  | queueStatus (via : Envelope)
  /-- LIST_QUEUE (R136) -/
  | listQueue (via : Envelope) (priority : Byte) (start : Byte)
  /-- DEFINE_SHOT (R141) -/
  | defineShot (via : Envelope) (ref : FrameRef) (label : BitVec 32)
  /-- DELETE_SHOT (R142) -/
  | deleteShot (via : Envelope) (index : BitVec 16)
  /-- LOCK_SHOT (R143) -/
  | lockShot (via : Envelope) (index : BitVec 16)
  /-- UNLOCK_SHOT (R143) -/
  | unlockShot (via : Envelope) (index : BitVec 16)
  /-- LIST_SHOTS (R144) -/
  | listShots (via : Envelope) (start : BitVec 16)
  /-- SET_RULE (R145) -/
  | setRule (via : Envelope) (op : RuleOperands)
  /-- CLEAR_RULE (R145) -/
  | clearRule (via : Envelope) (rule : Byte)
  /-- SET_FADE_WINDOW (R149) -/
  | setFadeWindow (via : Envelope) (exponent : Byte)
  /-- CLEAR_EXTREMES (R149) -/
  | clearExtremes (via : Envelope)
  /-- FADE_STATUS (R149) -/
  | fadeStatus (via : Envelope)
  /-- EVALUATE_GRADE (R155) -/
  | evaluateGrade (via : Envelope) (ref : FrameRef) (density : PerChannel (BitVec 16))
  /-- FETCH_NOTICES (R161) -/
  | fetchNotices (via : Envelope)
  /-- SET_ATTENTION_MASK (R163) -/
  | setAttentionMask (via : Envelope) (mask : BitVec 16)
  /-- HOST_LINE_RETURNS_HIGH (R170) -/
  | hostLineReturnsHigh
  /-- PIPELINE_LINE_RETURNS_HIGH (R178) -/
  | pipelineLineReturnsHigh
  /-- ADDRESS_CHARACTER_OF_OTHER_VALUE (R171) -/
  | addressCharacterOfOtherValue (value : Byte)
  /-- PIPELINE_ADDRESS_OF_OTHER_VALUE (R178) -/
  | pipelineAddressOfOtherValue (value : Byte)
  deriving DecidableEq, Repr

end Sys2Proof
end

