-- ==== Sys2Proof/Decode.lean ====
section
/-! DEFINITION. The wire: how request bodies are read and written (R183, 11.7), the check (R185) and the shape of a
frame (R184), and `decodeTableWord` (no row of spec/opcode_table.json has bits). -/

namespace Sys2Proof

/-! ### Fields, most significant byte first (R183) -/

def be16 (x : BitVec 16) : List Byte := [x.extractLsb' 8 8, x.extractLsb' 0 8]

def be32 (x : BitVec 32) : List Byte :=
  [x.extractLsb' 24 8, x.extractLsb' 16 8, x.extractLsb' 8 8, x.extractLsb' 0 8]

/-- A reader takes a value from the front of a body, and gives it with what follows. -/
abbrev Reader (α : Type) := List Byte → Option (α × List Byte)

def rd8 : Reader Byte
  | b :: rest => some (b, rest)
  | [] => none

def rd16 : Reader (BitVec 16)
  | h :: l :: rest => some (h ++ l, rest)
  | _ => none

def rd32 : Reader (BitVec 32)
  | a :: b :: c :: d :: rest => some (a ++ b ++ c ++ d, rest)
  | _ => none

/-- The value read, when nothing is left of the body. -/
def atEnd {α : Type} (x : α) : List Byte → Option α
  | [] => some x
  | _ :: _ => none

def rdTriple {α : Type} (rd : Reader α) : Reader (PerChannel α) := fun b => do
  let (x, b) ← rd b
  let (y, b) ← rd b
  let (z, b) ← rd b
  return (⟨x, y, z⟩, b)

def wrTriple {α : Type} (wr : α → List Byte) (c : PerChannel α) : List Byte :=
  wr c.red ++ wr c.green ++ wr c.blue

def rdFrameRef : Reader FrameRef := fun b => do
  let (mode, b) ← rd8 b
  let (value, b) ← rd32 b
  return (⟨mode, value⟩, b)

def wrFrameRef (x : FrameRef) : List Byte :=
  [x.mode] ++ be32 x.value

def rdLocation : Reader LocationOperand := fun b => do
  let (kind, b) ← rd8 b
  let (value, b) ← rd16 b
  return (⟨kind, value⟩, b)

def wrLocation (x : LocationOperand) : List Byte :=
  [x.kind] ++ be16 x.value

def rdChannelRule : Reader ChannelRuleOperands := fun b => do
  let (black, b) ← rd16 b
  let (gain, b) ← rd16 b
  let (offset, b) ← rd16 b
  let (trim, b) ← rd8 b
  return (⟨black, gain, offset, trim⟩, b)

def wrChannelRule (x : ChannelRuleOperands) : List Byte :=
  be16 x.black ++ be16 x.gain ++ be16 x.offset ++ [x.trim]

def rdEnrol : Reader EnrolOperands := fun b => do
  let (reelId, b) ← rd32 b
  let (gauge, b) ← rd8 b
  let (length, b) ← rd16 b
  let (label, b) ← rd32 b
  let (cls, b) ← rd8 b
  let (permit, b) ← rd8 b
  let (shrinkage, b) ← rd16 b
  let (passes, b) ← rd8 b
  let (fade, b) ← rdTriple rd16 b
  let (home, b) ← rd8 b
  let (location, b) ← rdLocation b
  return (⟨reelId, gauge, length, label, cls, permit, shrinkage, passes, fade, home, location⟩, b)

def wrEnrol (x : EnrolOperands) : List Byte :=
  be32 x.reelId ++ [x.gauge] ++ be16 x.length ++ be32 x.label ++ [x.cls] ++ [x.permit] ++ be16 x.shrinkage ++ [x.passes] ++ wrTriple be16 x.fade ++ [x.home] ++ wrLocation x.location

def rdCondition : Reader ConditionOperands := fun b => do
  let (reelId, b) ← rd32 b
  let (cls, b) ← rd8 b
  let (permit, b) ← rd8 b
  let (fade, b) ← rdTriple rd16 b
  return (⟨reelId, cls, permit, fade⟩, b)

def wrCondition (x : ConditionOperands) : List Byte :=
  be32 x.reelId ++ [x.cls] ++ [x.permit] ++ wrTriple be16 x.fade

def rdTransport : Reader TransportOperands := fun b => do
  let (threadingTime, b) ← rd8 b
  let (faultTime, b) ← rd16 b
  let (retryPolicy, b) ← rd8 b
  let (relaxTime, b) ← rd16 b
  let (slipMargin, b) ← rd16 b
  let (slipAction, b) ← rd8 b
  let (limitCap, b) ← rd16 b
  return (⟨threadingTime, faultTime, retryPolicy, relaxTime, slipMargin, slipAction, limitCap⟩, b)

def wrTransport (x : TransportOperands) : List Byte :=
  [x.threadingTime] ++ be16 x.faultTime ++ [x.retryPolicy] ++ be16 x.relaxTime ++ be16 x.slipMargin ++ [x.slipAction] ++ be16 x.limitCap

def rdAddDefect : Reader AddDefectOperands := fun b => do
  let (ref, b) ← rdFrameRef b
  let (count, b) ← rd8 b
  let (kind, b) ← rd8 b
  let (severity, b) ← rd8 b
  let (detail, b) ← rd16 b
  return (⟨ref, count, kind, severity, detail⟩, b)

def wrAddDefect (x : AddDefectOperands) : List Byte :=
  wrFrameRef x.ref ++ [x.count] ++ [x.kind] ++ [x.severity] ++ be16 x.detail

def rdListDefects : Reader ListDefectsOperands := fun b => do
  let (start, b) ← rd16 b
  let (first, b) ← rd16 b
  let (last, b) ← rd16 b
  let (kinds, b) ← rd8 b
  let (states, b) ← rd8 b
  return (⟨start, first, last, kinds, states⟩, b)

def wrListDefects (x : ListDefectsOperands) : List Byte :=
  be16 x.start ++ be16 x.first ++ be16 x.last ++ [x.kinds] ++ [x.states]

def rdRule : Reader RuleOperands := fun b => do
  let (rule, b) ← rd8 b
  let (enabled, b) ← rd8 b
  let (key, b) ← rd32 b
  let (length, b) ← rd8 b
  let (channels, b) ← rdTriple rdChannelRule b
  let (fadeMode, b) ← rd8 b
  let (fixedFade, b) ← rd16 b
  let (fadeGain, b) ← rd8 b
  let (exclude, b) ← rd8 b
  return (⟨rule, enabled, key, length, channels, fadeMode, fixedFade, fadeGain, exclude⟩, b)

def wrRule (x : RuleOperands) : List Byte :=
  [x.rule] ++ [x.enabled] ++ be32 x.key ++ [x.length] ++ wrTriple wrChannelRule x.channels ++ [x.fadeMode] ++ be16 x.fixedFade ++ [x.fadeGain] ++ [x.exclude]

/-! ### Kinds (11.7) -/

/-- The code of each request kind, as the message catalogue gives it (11.7). -/
def Kind.code : Kind → Byte
  | .identify => 1
  | .restartSuite => 2
  | .snapshotCounters => 3
  | .readCounters => 4
  | .clearCounters => 5
  | .readClock => 8
  | .adjustClock => 9
  | .trimClock => 10
  | .enrolReel => 16
  | .withdrawReel => 17
  | .requestReel => 18
  | .reelArrived => 19
  | .loadReel => 20
  | .unloadReel => 21
  | .reelPlaced => 22
  | .recallReel => 23
  | .setCondition => 24
  | .grantPasses => 25
  | .reelStatus => 26
  | .listReels => 27
  | .closeSlot => 32
  | .openSlot => 33
  | .setZoneTime => 34
  | .setZonePolicy => 35
  | .slotStatus => 36
  | .listHold => 37
  | .zoneStatus => 38
  | .setTransport => 48
  | .runPass => 49
  | .stop => 50
  | .release => 51
  | .readIncident => 52
  | .clearIncident => 53
  | .transportStatus => 54
  | .setHead => 64
  | .setMark => 65
  | .trackerStatus => 66
  | .setCapture => 72
  | .captureStatus => 73
  | .addDefect => 80
  | .queueDefect => 81
  | .waiveDefect => 82
  | .requeueDefect => 83
  | .listDefects => 84
  | .defectSummary => 85
  | .setDefectPolicy => 86
  | .setStation => 96
  | .takeWork => 97
  | .returnWork => 98
  | .completeWork => 99
  | .undoRepair => 100
  | .queueStatus => 101
  | .listQueue => 102
  | .defineShot => 112
  | .deleteShot => 113
  | .lockShot => 114
  | .unlockShot => 115
  | .listShots => 116
  | .setRule => 117
  | .clearRule => 118
  | .setFadeWindow => 119
  | .clearExtremes => 120
  | .fadeStatus => 121
  | .evaluateGrade => 122
  | .fetchNotices => 128
  | .setAttentionMask => 129

/-- The catalogue's kinds, in its order. -/
def Kind.all : List Kind :=
  [.identify, .restartSuite, .snapshotCounters, .readCounters, .clearCounters, .readClock,
   .adjustClock, .trimClock, .enrolReel, .withdrawReel, .requestReel, .reelArrived,
   .loadReel, .unloadReel, .reelPlaced, .recallReel, .setCondition, .grantPasses,
   .reelStatus, .listReels, .closeSlot, .openSlot, .setZoneTime, .setZonePolicy,
   .slotStatus, .listHold, .zoneStatus, .setTransport, .runPass, .stop,
   .release, .readIncident, .clearIncident, .transportStatus, .setHead, .setMark,
   .trackerStatus, .setCapture, .captureStatus, .addDefect, .queueDefect, .waiveDefect,
   .requeueDefect, .listDefects, .defectSummary, .setDefectPolicy, .setStation, .takeWork,
   .returnWork, .completeWork, .undoRepair, .queueStatus, .listQueue, .defineShot,
   .deleteShot, .lockShot, .unlockShot, .listShots, .setRule, .clearRule,
   .setFadeWindow, .clearExtremes, .fadeStatus, .evaluateGrade, .fetchNotices, .setAttentionMask]

/-- The kind a code names; none for a code that the catalogue does not list as a request (R175). -/
def Kind.ofCode (b : Byte) : Option Kind := Kind.all.find? fun k => k.code == b

def Request.kind : Request → Kind
  | .identify => .identify
  | .restartSuite => .restartSuite
  | .snapshotCounters .. => .snapshotCounters
  | .readCounters => .readCounters
  | .clearCounters => .clearCounters
  | .readClock => .readClock
  | .adjustClock .. => .adjustClock
  | .trimClock .. => .trimClock
  | .enrolReel .. => .enrolReel
  | .withdrawReel .. => .withdrawReel
  | .requestReel .. => .requestReel
  | .reelArrived .. => .reelArrived
  | .loadReel .. => .loadReel
  | .unloadReel .. => .unloadReel
  | .reelPlaced .. => .reelPlaced
  | .recallReel .. => .recallReel
  | .setCondition .. => .setCondition
  | .grantPasses .. => .grantPasses
  | .reelStatus .. => .reelStatus
  | .listReels .. => .listReels
  | .closeSlot .. => .closeSlot
  | .openSlot .. => .openSlot
  | .setZoneTime .. => .setZoneTime
  | .setZonePolicy .. => .setZonePolicy
  | .slotStatus .. => .slotStatus
  | .listHold .. => .listHold
  | .zoneStatus .. => .zoneStatus
  | .setTransport .. => .setTransport
  | .runPass .. => .runPass
  | .stop => .stop
  | .release => .release
  | .readIncident => .readIncident
  | .clearIncident => .clearIncident
  | .transportStatus => .transportStatus
  | .setHead .. => .setHead
  | .setMark .. => .setMark
  | .trackerStatus => .trackerStatus
  | .setCapture .. => .setCapture
  | .captureStatus => .captureStatus
  | .addDefect .. => .addDefect
  | .queueDefect .. => .queueDefect
  | .waiveDefect .. => .waiveDefect
  | .requeueDefect .. => .requeueDefect
  | .listDefects .. => .listDefects
  | .defectSummary => .defectSummary
  | .setDefectPolicy .. => .setDefectPolicy
  | .setStation .. => .setStation
  | .takeWork .. => .takeWork
  | .returnWork .. => .returnWork
  | .completeWork .. => .completeWork
  | .undoRepair => .undoRepair
  | .queueStatus => .queueStatus
  | .listQueue .. => .listQueue
  | .defineShot .. => .defineShot
  | .deleteShot .. => .deleteShot
  | .lockShot .. => .lockShot
  | .unlockShot .. => .unlockShot
  | .listShots .. => .listShots
  | .setRule .. => .setRule
  | .clearRule .. => .clearRule
  | .setFadeWindow .. => .setFadeWindow
  | .clearExtremes => .clearExtremes
  | .fadeStatus => .fadeStatus
  | .evaluateGrade .. => .evaluateGrade
  | .fetchNotices => .fetchNotices
  | .setAttentionMask .. => .setAttentionMask

/-- The body that carries a request: its fields in the order its rule lists them (R183, 11.7). -/
def Request.body : Request → List Byte
  | .identify => []
  | .restartSuite => []
  | .snapshotCounters clear => [clear]
  | .readCounters => []
  | .clearCounters => []
  | .readClock => []
  | .adjustClock seconds micros => be32 seconds ++ be32 micros
  | .trimClock trim => be16 trim
  | .enrolReel op => wrEnrol op
  | .withdrawReel reelId => be32 reelId
  | .requestReel reelId => be32 reelId
  | .reelArrived reelId => be32 reelId
  | .loadReel reelId none => be32 reelId
  | .loadReel reelId (some head) => be32 reelId ++ be16 head
  | .unloadReel force => [force]
  | .reelPlaced reelId slot => be32 reelId ++ be16 slot
  | .recallReel reelId => be32 reelId
  | .setCondition op => wrCondition op
  | .grantPasses reelId passes => be32 reelId ++ [passes]
  | .reelStatus reelId => be32 reelId
  | .listReels start => be32 start
  | .closeSlot slot => be16 slot
  | .openSlot slot => be16 slot
  | .setZoneTime zone minutes => [zone] ++ be16 minutes
  | .setZonePolicy cls mask => [cls] ++ [mask]
  | .slotStatus slot => be16 slot
  | .listHold start => [start]
  | .zoneStatus zone => [zone]
  | .setTransport op => wrTransport op
  | .runPass first last speed => wrFrameRef first ++ wrFrameRef last ++ [speed]
  | .stop => []
  | .release => []
  | .readIncident => []
  | .clearIncident => []
  | .transportStatus => []
  | .setHead ref => wrFrameRef ref
  | .setMark mark ref => [mark] ++ wrFrameRef ref
  | .trackerStatus => []
  | .setCapture timeout dust scratch => be16 timeout ++ be16 dust ++ be16 scratch
  | .captureStatus => []
  | .addDefect op => wrAddDefect op
  | .queueDefect defect priority => be16 defect ++ [priority]
  | .waiveDefect defect => be16 defect
  | .requeueDefect defect priority => be16 defect ++ [priority]
  | .listDefects op => wrListDefects op
  | .defectSummary => []
  | .setDefectPolicy kind threshold => [kind] ++ [threshold]
  | .setStation station enabled mask => [station] ++ [enabled] ++ [mask]
  | .takeWork station => [station]
  | .returnWork station defect => [station] ++ be16 defect
  | .completeWork station defect outcome => [station] ++ be16 defect ++ [outcome]
  | .undoRepair => []
  | .queueStatus => []
  | .listQueue priority start => [priority] ++ [start]
  | .defineShot ref label => wrFrameRef ref ++ be32 label
  | .deleteShot index => be16 index
  | .lockShot index => be16 index
  | .unlockShot index => be16 index
  | .listShots start => be16 start
  | .setRule op => wrRule op
  | .clearRule rule => [rule]
  | .setFadeWindow exponent => [exponent]
  | .clearExtremes => []
  | .fadeStatus => []
  | .evaluateGrade ref density => wrFrameRef ref ++ wrTriple be16 density
  | .fetchNotices => []
  | .setAttentionMask mask => be16 mask

/-- The request a body of a known kind carries; none when its length is not one the catalogue gives for the kind
(R175). LOAD_REEL alone has two lengths (11.7). -/
def parseBody (k : Kind) (b : List Byte) : Option Request :=
  match k with
  | .identify => atEnd .identify b
  | .restartSuite => atEnd .restartSuite b
  | .snapshotCounters => do
    let (clear, b) ← rd8 b
    atEnd (.snapshotCounters clear) b
  | .readCounters => atEnd .readCounters b
  | .clearCounters => atEnd .clearCounters b
  | .readClock => atEnd .readClock b
  | .adjustClock => do
    let (seconds, b) ← rd32 b
    let (micros, b) ← rd32 b
    atEnd (.adjustClock seconds micros) b
  | .trimClock => do
    let (trim, b) ← rd16 b
    atEnd (.trimClock trim) b
  | .enrolReel => do
    let (op, b) ← rdEnrol b
    atEnd (.enrolReel op) b
  | .withdrawReel => do
    let (reelId, b) ← rd32 b
    atEnd (.withdrawReel reelId) b
  | .requestReel => do
    let (reelId, b) ← rd32 b
    atEnd (.requestReel reelId) b
  | .reelArrived => do
    let (reelId, b) ← rd32 b
    atEnd (.reelArrived reelId) b
  | .loadReel => do
    let (reelId, b) ← rd32 b
    match b with
    | [] => some (.loadReel reelId none)
    | _ :: _ => do
      let (head, b) ← rd16 b
      atEnd (.loadReel reelId (some head)) b
  | .unloadReel => do
    let (force, b) ← rd8 b
    atEnd (.unloadReel force) b
  | .reelPlaced => do
    let (reelId, b) ← rd32 b
    let (slot, b) ← rd16 b
    atEnd (.reelPlaced reelId slot) b
  | .recallReel => do
    let (reelId, b) ← rd32 b
    atEnd (.recallReel reelId) b
  | .setCondition => do
    let (op, b) ← rdCondition b
    atEnd (.setCondition op) b
  | .grantPasses => do
    let (reelId, b) ← rd32 b
    let (passes, b) ← rd8 b
    atEnd (.grantPasses reelId passes) b
  | .reelStatus => do
    let (reelId, b) ← rd32 b
    atEnd (.reelStatus reelId) b
  | .listReels => do
    let (start, b) ← rd32 b
    atEnd (.listReels start) b
  | .closeSlot => do
    let (slot, b) ← rd16 b
    atEnd (.closeSlot slot) b
  | .openSlot => do
    let (slot, b) ← rd16 b
    atEnd (.openSlot slot) b
  | .setZoneTime => do
    let (zone, b) ← rd8 b
    let (minutes, b) ← rd16 b
    atEnd (.setZoneTime zone minutes) b
  | .setZonePolicy => do
    let (cls, b) ← rd8 b
    let (mask, b) ← rd8 b
    atEnd (.setZonePolicy cls mask) b
  | .slotStatus => do
    let (slot, b) ← rd16 b
    atEnd (.slotStatus slot) b
  | .listHold => do
    let (start, b) ← rd8 b
    atEnd (.listHold start) b
  | .zoneStatus => do
    let (zone, b) ← rd8 b
    atEnd (.zoneStatus zone) b
  | .setTransport => do
    let (op, b) ← rdTransport b
    atEnd (.setTransport op) b
  | .runPass => do
    let (first, b) ← rdFrameRef b
    let (last, b) ← rdFrameRef b
    let (speed, b) ← rd8 b
    atEnd (.runPass first last speed) b
  | .stop => atEnd .stop b
  | .release => atEnd .release b
  | .readIncident => atEnd .readIncident b
  | .clearIncident => atEnd .clearIncident b
  | .transportStatus => atEnd .transportStatus b
  | .setHead => do
    let (ref, b) ← rdFrameRef b
    atEnd (.setHead ref) b
  | .setMark => do
    let (mark, b) ← rd8 b
    let (ref, b) ← rdFrameRef b
    atEnd (.setMark mark ref) b
  | .trackerStatus => atEnd .trackerStatus b
  | .setCapture => do
    let (timeout, b) ← rd16 b
    let (dust, b) ← rd16 b
    let (scratch, b) ← rd16 b
    atEnd (.setCapture timeout dust scratch) b
  | .captureStatus => atEnd .captureStatus b
  | .addDefect => do
    let (op, b) ← rdAddDefect b
    atEnd (.addDefect op) b
  | .queueDefect => do
    let (defect, b) ← rd16 b
    let (priority, b) ← rd8 b
    atEnd (.queueDefect defect priority) b
  | .waiveDefect => do
    let (defect, b) ← rd16 b
    atEnd (.waiveDefect defect) b
  | .requeueDefect => do
    let (defect, b) ← rd16 b
    let (priority, b) ← rd8 b
    atEnd (.requeueDefect defect priority) b
  | .listDefects => do
    let (op, b) ← rdListDefects b
    atEnd (.listDefects op) b
  | .defectSummary => atEnd .defectSummary b
  | .setDefectPolicy => do
    let (kind, b) ← rd8 b
    let (threshold, b) ← rd8 b
    atEnd (.setDefectPolicy kind threshold) b
  | .setStation => do
    let (station, b) ← rd8 b
    let (enabled, b) ← rd8 b
    let (mask, b) ← rd8 b
    atEnd (.setStation station enabled mask) b
  | .takeWork => do
    let (station, b) ← rd8 b
    atEnd (.takeWork station) b
  | .returnWork => do
    let (station, b) ← rd8 b
    let (defect, b) ← rd16 b
    atEnd (.returnWork station defect) b
  | .completeWork => do
    let (station, b) ← rd8 b
    let (defect, b) ← rd16 b
    let (outcome, b) ← rd8 b
    atEnd (.completeWork station defect outcome) b
  | .undoRepair => atEnd .undoRepair b
  | .queueStatus => atEnd .queueStatus b
  | .listQueue => do
    let (priority, b) ← rd8 b
    let (start, b) ← rd8 b
    atEnd (.listQueue priority start) b
  | .defineShot => do
    let (ref, b) ← rdFrameRef b
    let (label, b) ← rd32 b
    atEnd (.defineShot ref label) b
  | .deleteShot => do
    let (index, b) ← rd16 b
    atEnd (.deleteShot index) b
  | .lockShot => do
    let (index, b) ← rd16 b
    atEnd (.lockShot index) b
  | .unlockShot => do
    let (index, b) ← rd16 b
    atEnd (.unlockShot index) b
  | .listShots => do
    let (start, b) ← rd16 b
    atEnd (.listShots start) b
  | .setRule => do
    let (op, b) ← rdRule b
    atEnd (.setRule op) b
  | .clearRule => do
    let (rule, b) ← rd8 b
    atEnd (.clearRule rule) b
  | .setFadeWindow => do
    let (exponent, b) ← rd8 b
    atEnd (.setFadeWindow exponent) b
  | .clearExtremes => atEnd .clearExtremes b
  | .fadeStatus => atEnd .fadeStatus b
  | .evaluateGrade => do
    let (ref, b) ← rdFrameRef b
    let (density, b) ← rdTriple rd16 b
    atEnd (.evaluateGrade ref density) b
  | .fetchNotices => atEnd .fetchNotices b
  | .setAttentionMask => do
    let (mask, b) ← rd16 b
    atEnd (.setAttentionMask mask) b

/-! ### The check and the frame (R184, R185) -/

/-- One shift of the check register (R185, step 3). -/
def checkShift (r : BitVec 16) : BitVec 16 :=
  if r.getLsbD 15 then (r <<< 1) ^^^ 0x1021 else r <<< 1

/-- One byte taken into the check register (R185, steps 2 and 3). -/
def checkByte (r : BitVec 16) (b : Byte) : BitVec 16 :=
  checkShift (checkShift (checkShift (checkShift (checkShift (checkShift (checkShift (checkShift
    (r ^^^ (b ++ (0 : Byte))))))))))

/-- The check over the data characters from the tag to the last body byte (R185). -/
def checkOf (bytes : List Byte) : BitVec 16 := bytes.foldl checkByte 0xFFFF

/-- A frame: the address character, the data characters, and the two check characters, high byte first (R184). -/
def frameChars (address : Byte) (data : List Byte) : List LineChar :=
  ⟨true, address⟩ :: (data ++ be16 (checkOf data)).map (LineChar.mk false)

/-- The data characters of a request frame or of either pipeline frame: tag, kind, body length, body (R184). -/
def requestData (tag kind : Byte) (body : List Byte) : List Byte :=
  tag :: kind :: BitVec.ofNat 8 body.length :: body

/-! ### The opcode table -/

/-- The command that a word spells by the table's bits: no row of spec/opcode_table.json gives bits. -/
def decodeTableWord (_nbits _w : Nat) : Option Instr := none

end Sys2Proof
end

