-- ==== Sys2Proof/Config.lean ====
section
/-! DEFINITION. What the manual leaves open: uninterpreted constants, so that no proof can see their values,
and the one revision the manual names. -/

namespace Sys2Proof.Config

/-- UNSTATED: the run counter after the tick that finds it at its greatest value (R39 says only that this is
not reached in the service life). DESIGN CHOICE (log 9), safe: free. Applied to the number of free values drawn so far. -/
opaque runCounterPastEnd : Nat → BitVec 48

/-- UNSTATED: the byte that stands for alignment good (true) or lost (false) in TRANSPORT_STATUS; 12.6 lists no
code for it. DESIGN CHOICE (log 12), safe: free. -/
opaque alignmentCode : Bool → Byte

/-- The reply fields whose width the table of R183 does not give. -/
inductive UnsizedField where
  | nominalPitch | perforationsPerFrame | smoothedPitch | expectedPitch | perforationCount
  | accumulatorCount | outputCode
  deriving DecidableEq, Repr

/-- UNSTATED: by how many bytes such a field is wider than its range needs. DESIGN CHOICE (log 11), safe: free. -/
opaque extraWidth : UnsizedField → Nat

/-- UNSTATED: the value that stands for such a field's absence where it is wider than two bytes; R183 gives that of
one byte and of two. DESIGN CHOICE (log 11), safe: free. -/
opaque absentValue : UnsizedField → Nat

/-- The silicon revision IDENTIFY reports: first silicon (12.5). DESIGN CHOICE (log 27), unsafe. -/
def siliconRevision : Nat := 1

end Sys2Proof.Config
end

