-- ==== Sys2Proof/Machine/State.lean ====
section
/-! DEFINITION. The state of the part, block by block, the outcomes' reasons, and the state after a full reset. -/

namespace Sys2Proof.Machine

/-! ### Outcomes -/

/-- The part never stops: a request that may not be carried out is answered with a status, and an event that finds
nothing to act on changes nothing. No meaning raises a fault. -/
inductive Fault
  deriving DecidableEq, Repr

/-- Why a command is refused. -/
inductive Refusal where
  /-- Raised by exec's arm for a command that has no meaning yet; safe. No arm raises it. -/
  | notModelled (mnemonic : String)
  deriving DecidableEq, Repr

/-! ### Values shared by the blocks -/

/-- A suite clock value (R38). -/
structure SuiteTime where
  seconds : Nat
  micros  : Nat
  deriving DecidableEq, Repr

/-- One value for each decay class. -/
structure PerClass (α : Type) where
  a : α
  b : α
  c : α
  d : α
  deriving DecidableEq, Repr

/-- One value for each zone. -/
structure PerZone (α : Type) where
  cold      : α
  frozen    : α
  isolation : α
  workroom  : α
  deriving DecidableEq, Repr

/-- One value for each priority. -/
structure PerPriority (α : Type) where
  p0 : α
  p1 : α
  p2 : α
  p3 : α
  deriving DecidableEq, Repr

/-- One value for each defect kind. -/
structure PerKind (α : Type) where
  perfDamage  : α
  perfMissing : α
  splice      : α
  tear        : α
  warp        : α
  dust        : α
  scratch     : α
  scanGap     : α
  deriving DecidableEq, Repr

/-! ### Reel Catalogue (R1, 1.2) -/

inductive Gauge where
  | g35 | g16
  deriving DecidableEq, Repr

inductive DecayClass where
  | a | b | c | d
  deriving DecidableEq, Repr

inductive Zone where
  | cold | frozen | isolation | workroom
  deriving DecidableEq, Repr

/-- A reel's state with the slot or the deadline that the state carries (1.2). -/
inductive ReelState where
  | shelved (slot : Nat)
  | outbound (slot : Nat)
  | acclimatizing (deadline : Nat)
  | ready
  | loaded
  | hold
  | returning (slot : Nat)
  deriving DecidableEq, Repr

/-- The reel record (R1). -/
structure Reel where
  id          : Nat
  gauge       : Gauge
  length      : Nat
  label       : BitVec 32
  cls         : DecayClass
  permit      : Bool
  shrinkage   : Nat
  passes      : Nat
  passTotal   : Nat
  fadeRef     : PerChannel Nat
  home        : Zone
  state       : ReelState
  deferred    : Nat
  graded      : Bool
  sessionLost : Bool
  deriving DecidableEq, Repr

/-! ### Shelf Allocator (R21) -/

/-- A slot's state with its owner (R21, R22). -/
inductive SlotState where
  | free
  | reserved (owner : Nat)
  | occupied (owner : Nat)
  | closed
  deriving DecidableEq, Repr

/-- The slot table, the zone policy, the zone times and the hold queue, oldest first (R21, R26, R27, R31). -/
structure Vault where
  slots       : Vector SlotState 256
  masks       : PerClass (BitVec 4)
  zoneMinutes : PerZone Nat
  hold        : List Nat
  deriving DecidableEq, Repr

/-! ### Time Base (R38, R39) -/

/-- The suite clock, its trim in ppm and its remainder in millionths of a microsecond, and the run counter. -/
structure TimeBase where
  clock      : SuiteTime
  trim       : Int
  remainder  : Nat
  runCounter : Nat
  deriving DecidableEq, Repr

/-! ### Transport Controller (R47) -/

inductive TransportState where
  | empty | threading | stopped | winding | running | limiting | relaxing | fault
  deriving DecidableEq, Repr

/-- The state that limiting interrupted (R47). -/
inductive Remembered where
  | winding | running
  deriving DecidableEq, Repr

inductive Direction where
  | forward | backward
  deriving DecidableEq, Repr

inductive FaultCause where
  | strain | slip | track | break | thread
  deriving DecidableEq, Repr

/-- Why a pass ended (R57). -/
inductive PassEnd where
  | endFrame | hostStop | condition | pipeline | fault
  deriving DecidableEq, Repr

/-- A pass end asked for at the next frame boundary (R47, R56). -/
inductive PendingEnd where
  | hostStop | condition | pipeline
  deriving DecidableEq, Repr

inductive SlipWatch where
  | inactive | armed | timing | spent
  deriving DecidableEq, Repr

inductive RetryPolicy where
  | never | count (n : Nat) | unlimited
  deriving DecidableEq, Repr

inductive SlipAction where
  | stop | report
  deriving DecidableEq, Repr

structure PassRecord where
  first  : Nat
  last   : Nat
  speed  : Nat
  number : Nat
  deriving DecidableEq, Repr

/-- The incident record (R67). -/
structure Incident where
  cause      : FaultCause
  time       : SuiteTime
  runCounter : Nat
  head       : Nat
  pass       : Option Nat
  feed       : Nat
  takeUp     : Nat
  integrator : Nat
  retries    : Nat
  shrinkage  : Nat
  deriving DecidableEq, Repr

/-- The transport settings (R49). -/
structure TransportSettings where
  threadingTime : Nat
  faultTime     : Nat
  retryPolicy   : RetryPolicy
  relaxTime     : Nat
  slipMargin    : Nat
  slipAction    : SlipAction
  limitCap      : Option Nat
  deriving DecidableEq, Repr

/-- TC's state with its four deadlines, the strain-warning line and the film-present line (R47). -/
structure Transport where
  state         : TransportState
  remembered    : Option Remembered
  direction     : Option Direction
  target        : Option Nat
  faultCause    : Option FaultCause
  pass          : Option PassRecord
  pendingEnd    : Option PendingEnd
  aligned       : Bool
  integrator    : Nat
  retries       : Nat
  feed          : Nat
  takeUp        : Nat
  watch         : SlipWatch
  relaxExpired  : Bool
  incident      : Option Incident
  incidentCount : Nat
  settings      : TransportSettings
  threadingDue  : Option Nat
  relaxDue      : Option Nat
  strainDue     : Option Nat
  slipDue       : Option Nat
  strainLine    : Bool
  filmPresent   : Bool
  deriving DecidableEq, Repr

/-! ### Perforation Tracker (R71) -/

structure Tracker where
  gauge    : Gauge
  length   : Nat
  last     : Option (BitVec 32)
  p16      : Nat
  count    : Nat
  head     : Nat
  markA    : Option Nat
  markB    : Option Nat
  latest   : Nat
  peak     : Nat
  deriving DecidableEq, Repr

/-! ### Capture Unit (R86) -/

/-- The effective grade of one channel: black point E, gain g, offset o (R86, R150). -/
structure ChannelGrade where
  black  : Nat
  gain   : Nat
  offset : Int
  deriving DecidableEq, Repr

abbrev Grade := PerChannel ChannelGrade

/-- A capture order (R86). -/
structure Order where
  tag      : Byte
  pass     : Nat
  frame    : Nat
  shot     : Nat
  grade    : Grade
  issued   : SuiteTime
  deadline : Nat
  deriving DecidableEq, Repr

structure Capture where
  orders       : List Order
  tagCounter   : Byte
  gaps         : Nat
  timeout      : Nat
  dustLimit    : Nat
  scratchLimit : Nat
  deriving DecidableEq, Repr

/-! ### Defect Map (R103) -/

inductive DefectKind where
  | perfDamage | perfMissing | splice | tear | warp | dust | scratch | scanGap
  deriving DecidableEq, Repr

inductive Priority where
  | p0 | p1 | p2 | p3
  deriving DecidableEq, Repr

/-- A record's state with the priority and station that the state carries (R105). -/
inductive DefectState where
  | found
  | queued (priority : Priority)
  | assigned (priority : Priority) (station : Nat)
  | repaired
  | waived
  | deferred
  deriving DecidableEq, Repr

inductive Origin where
  | tracker | pipeline | transport | host
  deriving DecidableEq, Repr

structure Defect where
  id       : Nat
  frame    : Nat
  extent   : Nat
  kind     : DefectKind
  severity : Nat
  state    : DefectState
  origin   : Origin
  detail   : Nat
  found    : SuiteTime
  refused  : Bool
  deriving DecidableEq, Repr

/-- The map in creation order, and the auto-queue thresholds (R103, R111). -/
structure DefectMap where
  records    : List Defect
  thresholds : PerKind Nat
  deriving DecidableEq, Repr

/-! ### Repair Queue Manager (R120, R124, R132) -/

/-- A pool entry in use (R120). -/
structure Entry where
  defect : Nat
  kind   : DefectKind
  deriving DecidableEq, Repr

/-- A station's state; WORKING holds the entry of its defect. Enabled is every state but OFFLINE (R124). -/
inductive StationState where
  | offline
  | idle
  | working (entry : Entry)
  deriving DecidableEq, Repr

/-- A station record; bit n of the mask stands for the defect kind of code n (R124, R183). -/
structure Station where
  state : StationState
  mask  : BitVec 7
  deriving DecidableEq, Repr

structure UndoRecord where
  defect   : Nat
  station  : Nat
  priority : Priority
  deriving DecidableEq, Repr

/-- The four queues, front first, the stations, and the undo stack, top first. -/
structure Repair where
  queues   : PerPriority (List Entry)
  stations : Vector Station 8
  undo     : List UndoRecord
  deriving DecidableEq, Repr

/-! ### Grading Unit (R140, R145, R147, R148) -/

/-- A shot; it is locked when it holds a snapshot (R140). -/
structure Shot where
  first    : Nat
  label    : BitVec 32
  snapshot : Option Grade
  clipRisk : Nat
  deriving DecidableEq, Repr

inductive FadeMode where
  | auto | fixed | off
  deriving DecidableEq, Repr

structure ChannelRule where
  black  : Nat
  gain   : Nat
  offset : Int
  trim   : Int
  deriving DecidableEq, Repr

structure Rule where
  enabled   : Bool
  key       : BitVec 32
  length    : Nat
  channels  : PerChannel ChannelRule
  fadeMode  : FadeMode
  fixedFade : Int
  fadeGain  : Nat
  exclude   : Bool
  deriving DecidableEq, Repr

/-- One channel's fade statistics and extremes (lowest, highest) (R147, R148). -/
structure FadeChannel where
  sum      : Nat
  count    : Nat
  mean     : Nat
  valid    : Bool
  extremes : Option (Nat × Nat)
  deriving DecidableEq, Repr

structure Grading where
  shots  : List Shot
  rules  : Vector Rule 32
  window : Nat
  fade   : PerChannel FadeChannel
  deriving DecidableEq, Repr

/-! ### Notice List and counters (R159, R165, R166) -/

inductive NoticeKind where
  | reelReady | reelHeld | slotOffered | misplaced | conditionRaised
  | passEnded | threadResult | transportFault | strainWarning | slipSeen
  | captureLost | staleReport | mapFull | queueRefused | clipRisk
  deriving DecidableEq, Repr

structure Notice where
  kind    : NoticeKind
  subject : Nat
  first   : SuiteTime
  repeats : Nat
  detail  : Nat
  deriving DecidableEq, Repr

/-- The list, oldest first, the overflow count, and the attention mask (bit n for the kind of code n). -/
structure NoticeList where
  notices  : List Notice
  overflow : Nat
  mask     : BitVec 15
  deriving DecidableEq, Repr

/-- The seventeen counters, in the order of R165's table. -/
structure Counters where
  framesAccepted         : Nat
  checkErrors            : Nat
  characterErrors        : Nat
  timeouts               : Nat
  overruns               : Nat
  collisions             : Nat
  pipelineFramesAccepted : Nat
  badFrames              : Nat
  orders                 : Nat
  lostOrders             : Nat
  overflowGaps           : Nat
  staleReports           : Nat
  refusalsP0             : Nat
  refusalsP1             : Nat
  refusalsP2             : Nat
  refusalsP3             : Nat
  mapOverflow            : Nat
  deriving DecidableEq, Repr

structure Snapshot where
  values : Counters
  time   : Option Nat
  deriving DecidableEq, Repr

/-! ### Host Link and pipeline port (R169 to R179) -/

/-- A port's parser; RECEIVE holds whether the frame is broadcast and the data characters taken so far (R171). -/
inductive Parser where
  | hunt
  | receive (broadcast : Bool) (taken : List Byte)
  deriving DecidableEq, Repr

/-- A request in the FIFO (R173). -/
structure HostRequest where
  tag       : Byte
  kind      : Byte
  body      : List Byte
  broadcast : Bool
  deriving DecidableEq, Repr

/-- The status codes of the Introduction's table, in its order. -/
inductive Status where
  | ok | okClamped | unknownKind | badLength | badValue | notFound | wrongState | full
  | busy | nothing | tooLate | notReady | condition | stillActive | locked | openWork
  deriving DecidableEq, Repr

/-- What an owner answers: a status and a reply body. -/
structure Answer where
  status : Status
  body   : List Byte
  deriving DecidableEq, Repr

/-- A reply in the reply queue (R174, R176). -/
structure Reply where
  tag    : Byte
  kind   : Byte
  answer : Answer
  deriving DecidableEq, Repr

/-- The host link's own state (R169 to R177). `overrunInReply` is the model's own: an overrun has been taken since the
reply in progress began, so that the end of that reply leaves the lost flag set (R173; log 19). -/
structure HostLink where
  unitAddress : BitVec 3
  rate        : BitVec 2
  parser      : Parser
  lineLow     : Bool
  fifo        : List HostRequest
  replies     : List Reply
  lost        : Bool
  sending     : Option (List LineChar)
  overrunInReply : Bool
  deriving DecidableEq, Repr

/-- The pipeline port: its parser, a break not yet ended, and the sender's list: the CAPTURE_ORDER frame in progress
and the orders that wait behind it, oldest first (R92, R178, R179). -/
structure PipelinePort where
  parser  : Parser
  lineLow : Bool
  sending : Option (List LineChar)
  waiting : List Order
  deriving DecidableEq, Repr

/-! ### The whole -/

/-- Everything but the host link and the waiting commands. -/
structure Device where
  reels     : List Reel
  vault     : Vault
  time      : TimeBase
  tc        : Transport
  pt        : Option Tracker
  /-- The capstan count as last latched (R72); log 8. -/
  capstan   : BitVec 32
  cu        : Capture
  dm        : DefectMap
  rq        : Repair
  gu        : Grading
  nl        : NoticeList
  counters  : Counters
  snapshot  : Snapshot
  pipe      : PipelinePort
  /-- The model's own: free values drawn so far (log 9). -/
  freeDraws : Nat
  deriving DecidableEq, Repr

/-- The machine: the waiting commands, first in first out, the host link, and the rest of the part. -/
structure State where
  pending : List Instr
  link    : HostLink
  dev     : Device
  deriving DecidableEq, Repr

/-! ### The state after a full reset -/

def TransportSettings.defaults : TransportSettings :=
  { threadingTime := 5, faultTime := 200, retryPolicy := .count 3, relaxTime := 20, slipMargin := 80,
    slipAction := .stop, limitCap := none }

/-- TC after a full reset, but for the film-present line, which is an input (R70). -/
def Transport.reset : Transport :=
  { state := .empty, remembered := none, direction := none, target := none, faultCause := none, pass := none,
    pendingEnd := none, aligned := false, integrator := 0, retries := 0, feed := 0, takeUp := 0,
    watch := .inactive, relaxExpired := false, incident := none, incidentCount := 0,
    settings := TransportSettings.defaults, threadingDue := none, relaxDue := none, strainDue := none,
    slipDue := none, strainLine := false, filmPresent := false }

/-- A rule's cleared values (R145). -/
def Rule.cleared : Rule :=
  let channel : ChannelRule := { black := 0, gain := 0, offset := 0, trim := 0 }
  { enabled := false, key := 0, length := 0, channels := ⟨channel, channel, channel⟩, fadeMode := .off,
    fixedFade := 0, fadeGain := 0, exclude := false }

/-- A channel's statistics as at load (R147, R148). -/
def FadeChannel.cleared : FadeChannel :=
  { sum := 0, count := 0, mean := 0, valid := false, extremes := none }

def Counters.zero : Counters :=
  { framesAccepted := 0, checkErrors := 0, characterErrors := 0, timeouts := 0, overruns := 0, collisions := 0,
    pipelineFramesAccepted := 0, badFrames := 0, orders := 0, lostOrders := 0, overflowGaps := 0,
    staleReports := 0, refusalsP0 := 0, refusalsP1 := 0, refusalsP2 := 0, refusalsP3 := 0, mapOverflow := 0 }

/-- R20, R37, R46, R70, R85, R102, R119, R139, R158, R164, R168, R182. The capstan count: DESIGN CHOICE (log 8). -/
def Device.reset : Device :=
  { reels := []
    vault :=
      { slots := Vector.replicate 256 .free
        masks := ⟨0b0011, 0b0011, 0b0110, 0b0100⟩
        zoneMinutes := ⟨120, 1440, 240, 0⟩
        hold := [] }
    time := { clock := ⟨0, 0⟩, trim := 0, remainder := 0, runCounter := 0 }
    tc := Transport.reset
    pt := none
    capstan := 0
    cu := { orders := [], tagCounter := 0, gaps := 0, timeout := 250, dustLimit := 200, scratchLimit := 100 }
    dm := { records := [], thresholds := ⟨3, 3, 0, 0, 4, 5, 4, 8⟩ }
    rq := { queues := ⟨[], [], [], []⟩, stations := Vector.replicate 8 ⟨.offline, 0⟩, undo := [] }
    gu :=
      { shots := [], rules := Vector.replicate 32 Rule.cleared, window := 5
        fade := ⟨FadeChannel.cleared, FadeChannel.cleared, FadeChannel.cleared⟩ }
    nl := { notices := [], overflow := 0, mask := 0x7FFF }
    counters := Counters.zero
    snapshot := { values := Counters.zero, time := none }
    pipe := { parser := .hunt, lineLow := false, sending := none, waiting := [] }
    freeDraws := 0 }

/-- The host link after a full reset that reads the given pins (R182). -/
def HostLink.reset (address : BitVec 3) (rate : BitVec 2) : HostLink :=
  { unitAddress := address, rate := rate, parser := .hunt, lineLow := false, fifo := [], replies := [],
    lost := false, sending := none, overrunInReply := false }

/-- The machine right after a full reset. The pins read low, the film-present line low and both lines high:
DESIGN CHOICE (log 7), unsafe. -/
def State.reset : State := { pending := [], link := HostLink.reset 0 0, dev := Device.reset }

end Sys2Proof.Machine
end

