-- ==== Sys2Proof/Machine/Codes.lean ====
section
/-! DEFINITION. The codes of the enumerations (12.6) and of the status character (R184). -/

namespace Sys2Proof.Machine

/-- 12.6. -/
def Gauge.code : Gauge → Nat
  | .g35 => 0
  | .g16 => 1

/-- The member a code names; none outside the enumeration (R183). -/
def Gauge.ofCode : Nat → Option Gauge
  | 0 => some .g35
  | 1 => some .g16
  | _ => none

/-- 12.6. -/
def DecayClass.code : DecayClass → Nat
  | .a => 0
  | .b => 1
  | .c => 2
  | .d => 3

/-- The member a code names; none outside the enumeration (R183). -/
def DecayClass.ofCode : Nat → Option DecayClass
  | 0 => some .a
  | 1 => some .b
  | 2 => some .c
  | 3 => some .d
  | _ => none

/-- 12.6. -/
def Zone.code : Zone → Nat
  | .cold => 0
  | .frozen => 1
  | .isolation => 2
  | .workroom => 3

/-- The member a code names; none outside the enumeration (R183). -/
def Zone.ofCode : Nat → Option Zone
  | 0 => some .cold
  | 1 => some .frozen
  | 2 => some .isolation
  | 3 => some .workroom
  | _ => none

/-- 12.6. -/
def TransportState.code : TransportState → Nat
  | .empty => 0
  | .threading => 1
  | .stopped => 2
  | .winding => 3
  | .running => 4
  | .limiting => 5
  | .relaxing => 6
  | .fault => 7

/-- 12.6. -/
def FaultCause.code : FaultCause → Nat
  | .strain => 0
  | .slip => 1
  | .track => 2
  | .break => 3
  | .thread => 4

/-- 12.6. -/
def PassEnd.code : PassEnd → Nat
  | .endFrame => 0
  | .hostStop => 1
  | .condition => 2
  | .pipeline => 3
  | .fault => 4

/-- 12.6. -/
def SlipAction.code : SlipAction → Nat
  | .stop => 0
  | .report => 1

/-- The member a code names; none outside the enumeration (R183). -/
def SlipAction.ofCode : Nat → Option SlipAction
  | 0 => some .stop
  | 1 => some .report
  | _ => none

/-- 12.6. -/
def SlipWatch.code : SlipWatch → Nat
  | .inactive => 0
  | .armed => 1
  | .timing => 2
  | .spent => 3

/-- 12.6. -/
def Direction.code : Direction → Nat
  | .forward => 0
  | .backward => 1

/-- 12.6. -/
def DefectKind.code : DefectKind → Nat
  | .perfDamage => 0
  | .perfMissing => 1
  | .splice => 2
  | .tear => 3
  | .warp => 4
  | .dust => 5
  | .scratch => 6
  | .scanGap => 7

/-- The member a code names; none outside the enumeration (R183). -/
def DefectKind.ofCode : Nat → Option DefectKind
  | 0 => some .perfDamage
  | 1 => some .perfMissing
  | 2 => some .splice
  | 3 => some .tear
  | 4 => some .warp
  | 5 => some .dust
  | 6 => some .scratch
  | 7 => some .scanGap
  | _ => none

/-- 12.6. -/
def Origin.code : Origin → Nat
  | .tracker => 0
  | .pipeline => 1
  | .transport => 2
  | .host => 3

/-- 12.6. -/
def Priority.code : Priority → Nat
  | .p0 => 0
  | .p1 => 1
  | .p2 => 2
  | .p3 => 3

/-- The member a code names; none outside the enumeration (R183). -/
def Priority.ofCode : Nat → Option Priority
  | 0 => some .p0
  | 1 => some .p1
  | 2 => some .p2
  | 3 => some .p3
  | _ => none

/-- 12.6. -/
def FadeMode.code : FadeMode → Nat
  | .auto => 0
  | .fixed => 1
  | .off => 2

/-- The member a code names; none outside the enumeration (R183). -/
def FadeMode.ofCode : Nat → Option FadeMode
  | 0 => some .auto
  | 1 => some .fixed
  | 2 => some .off
  | _ => none

/-- 12.6. -/
def NoticeKind.code : NoticeKind → Nat
  | .reelReady => 0
  | .reelHeld => 1
  | .slotOffered => 2
  | .misplaced => 3
  | .conditionRaised => 4
  | .passEnded => 5
  | .threadResult => 6
  | .transportFault => 7
  | .strainWarning => 8
  | .slipSeen => 9
  | .captureLost => 10
  | .staleReport => 11
  | .mapFull => 12
  | .queueRefused => 13
  | .clipRisk => 14

/-- The status codes (R184). -/
def Status.code : Status → Nat
  | .ok => 0
  | .okClamped => 1
  | .unknownKind => 2
  | .badLength => 3
  | .badValue => 4
  | .notFound => 5
  | .wrongState => 6
  | .full => 7
  | .busy => 8
  | .nothing => 9
  | .tooLate => 10
  | .notReady => 11
  | .condition => 12
  | .stillActive => 13
  | .locked => 14
  | .openWork => 15

/-- 12.6, reel state. -/
def ReelState.code : ReelState → Nat
  | .shelved _ => 0
  | .outbound _ => 1
  | .acclimatizing _ => 2
  | .ready => 3
  | .loaded => 4
  | .hold => 5
  | .returning _ => 6

/-- 12.6, slot state. -/
def SlotState.code : SlotState → Nat
  | .free => 0
  | .reserved _ => 1
  | .occupied _ => 2
  | .closed => 3

/-- 12.6, defect state. -/
def DefectState.code : DefectState → Nat
  | .found => 0
  | .queued _ => 1
  | .assigned _ _ => 2
  | .repaired => 3
  | .waived => 4
  | .deferred => 5

/-- 12.6, station state. -/
def StationState.code : StationState → Nat
  | .offline => 0
  | .idle => 1
  | .working _ => 2

/-- The transport state that a remembered state names; TRANSPORT_STATUS writes it with that state's code (12.6). -/
def Remembered.state : Remembered → TransportState
  | .winding => .winding
  | .running => .running

/-- The cause a pending end ends the pass with (R56). -/
def PendingEnd.cause : PendingEnd → PassEnd
  | .hostStop => .hostStop
  | .condition => .condition
  | .pipeline => .pipeline

/-- 12.6, retry policy: NONE 0, COUNT n as n, UNLIMITED 8. -/
def RetryPolicy.code : RetryPolicy → Nat
  | .never => 0
  | .count n => n
  | .unlimited => 8

def RetryPolicy.ofCode (n : Nat) : Option RetryPolicy :=
  if n = 0 then some .never
  else if n ≤ 7 then some (.count n)
  else if n = 8 then some .unlimited
  else none

/-- The routes of R104, coded 0 MECHANICAL, 1 IMAGE, 2 RESCAN (12.6). -/
def DefectKind.route : DefectKind → Nat
  | .perfDamage | .perfMissing | .splice | .tear | .warp => 0
  | .dust | .scratch => 1
  | .scanGap => 2

/-- The kinds whose findings extend a record (R104). -/
def DefectKind.extends : DefectKind → Bool
  | .perfDamage | .warp | .dust | .scratch => true
  | .perfMissing | .splice | .tear | .scanGap => false

/-! ### One value for each member -/

def PerClass.get {α : Type} (t : PerClass α) : DecayClass → α
  | .a => t.a
  | .b => t.b
  | .c => t.c
  | .d => t.d

def PerClass.set {α : Type} (t : PerClass α) (k : DecayClass) (x : α) : PerClass α :=
  match k with
  | .a => { t with a := x }
  | .b => { t with b := x }
  | .c => { t with c := x }
  | .d => { t with d := x }

def PerZone.get {α : Type} (t : PerZone α) : Zone → α
  | .cold => t.cold
  | .frozen => t.frozen
  | .isolation => t.isolation
  | .workroom => t.workroom

def PerZone.set {α : Type} (t : PerZone α) (k : Zone) (x : α) : PerZone α :=
  match k with
  | .cold => { t with cold := x }
  | .frozen => { t with frozen := x }
  | .isolation => { t with isolation := x }
  | .workroom => { t with workroom := x }

def PerPriority.get {α : Type} (t : PerPriority α) : Priority → α
  | .p0 => t.p0
  | .p1 => t.p1
  | .p2 => t.p2
  | .p3 => t.p3

def PerPriority.set {α : Type} (t : PerPriority α) (k : Priority) (x : α) : PerPriority α :=
  match k with
  | .p0 => { t with p0 := x }
  | .p1 => { t with p1 := x }
  | .p2 => { t with p2 := x }
  | .p3 => { t with p3 := x }

def PerPriority.map {α β : Type} (f : α → β) (t : PerPriority α) : PerPriority β :=
  ⟨f t.p0, f t.p1, f t.p2, f t.p3⟩

def PerKind.get {α : Type} (t : PerKind α) : DefectKind → α
  | .perfDamage => t.perfDamage
  | .perfMissing => t.perfMissing
  | .splice => t.splice
  | .tear => t.tear
  | .warp => t.warp
  | .dust => t.dust
  | .scratch => t.scratch
  | .scanGap => t.scanGap

def PerKind.set {α : Type} (t : PerKind α) (k : DefectKind) (x : α) : PerKind α :=
  match k with
  | .perfDamage => { t with perfDamage := x }
  | .perfMissing => { t with perfMissing := x }
  | .splice => { t with splice := x }
  | .tear => { t with tear := x }
  | .warp => { t with warp := x }
  | .dust => { t with dust := x }
  | .scratch => { t with scratch := x }
  | .scanGap => { t with scanGap := x }

/-- The members in code order. -/
def DecayClass.all : List DecayClass := [.a, .b, .c, .d]
def Zone.all : List Zone := [.cold, .frozen, .isolation, .workroom]
def DefectKind.all : List DefectKind :=
  [.perfDamage, .perfMissing, .splice, .tear, .warp, .dust, .scratch, .scanGap]

end Sys2Proof.Machine
end

