-- ==== Sys2Proof/Machine/Flags.lean ====
section
/-! DEFINITION. Counters, notices and the output lines: the flags of the part. -/

namespace Sys2Proof.Machine

/-! ### Counters (R165) -/

/-- A 16-bit saturating rise by 1 (R165; pass total, R17; clip-risk count, R154). -/
def bump16 (n : Nat) : Nat := if n < 65535 then n + 1 else 65535

/-- An 8-bit saturating rise by 1 (R47, R67, R160). -/
def bump8 (n : Nat) : Nat := if n < 255 then n + 1 else 255

/-- Names of the live counters, in R165's order. -/
inductive Counter where
  | framesAccepted | checkErrors | characterErrors | timeouts | overruns | collisions
  | pipelineFramesAccepted | badFrames | orders | lostOrders | overflowGaps | staleReports
  | refusal (p : Priority) | mapOverflow
  deriving DecidableEq, Repr

def Counters.bump (c : Counters) : Counter → Counters
  | .framesAccepted => { c with framesAccepted := bump16 c.framesAccepted }
  | .checkErrors => { c with checkErrors := bump16 c.checkErrors }
  | .characterErrors => { c with characterErrors := bump16 c.characterErrors }
  | .timeouts => { c with timeouts := bump16 c.timeouts }
  | .overruns => { c with overruns := bump16 c.overruns }
  | .collisions => { c with collisions := bump16 c.collisions }
  | .pipelineFramesAccepted => { c with pipelineFramesAccepted := bump16 c.pipelineFramesAccepted }
  | .badFrames => { c with badFrames := bump16 c.badFrames }
  | .orders => { c with orders := bump16 c.orders }
  | .lostOrders => { c with lostOrders := bump16 c.lostOrders }
  | .overflowGaps => { c with overflowGaps := bump16 c.overflowGaps }
  | .staleReports => { c with staleReports := bump16 c.staleReports }
  | .refusal .p0 => { c with refusalsP0 := bump16 c.refusalsP0 }
  | .refusal .p1 => { c with refusalsP1 := bump16 c.refusalsP1 }
  | .refusal .p2 => { c with refusalsP2 := bump16 c.refusalsP2 }
  | .refusal .p3 => { c with refusalsP3 := bump16 c.refusalsP3 }
  | .mapOverflow => { c with mapOverflow := bump16 c.mapOverflow }

/-- The values in R165's order. -/
def Counters.toList (c : Counters) : List Nat :=
  [c.framesAccepted, c.checkErrors, c.characterErrors, c.timeouts, c.overruns, c.collisions,
   c.pipelineFramesAccepted, c.badFrames, c.orders, c.lostOrders, c.overflowGaps, c.staleReports,
   c.refusalsP0, c.refusalsP1, c.refusalsP2, c.refusalsP3, c.mapOverflow]

/-- A live counter rises by 1, saturating (R165). -/
def Device.count (k : Counter) (d : Device) : Device := { d with counters := d.counters.bump k }

/-! ### Notices (R160) -/

def Notice.is (n : Notice) (kind : NoticeKind) (subject : Nat) : Bool :=
  decide (n.kind = kind) && decide (n.subject = subject)

/-- One posting: coalesce, append, or discard (R160). -/
def NoticeList.post (l : NoticeList) (now : SuiteTime) (kind : NoticeKind) (subject detail : Nat) : NoticeList :=
  if l.notices.any (·.is kind subject) then
    { l with notices := l.notices.map fun n =>
        if n.is kind subject then { n with repeats := bump8 n.repeats, detail := detail } else n }
  else if l.notices.length < 32 then
    { l with notices := l.notices ++ [{ kind, subject, first := now, repeats := 1, detail }] }
  else { l with overflow := bump8 l.overflow }

/-- A posting takes the suite clock as it stands (R45, R160). -/
def Device.post (kind : NoticeKind) (subject detail : Nat) (d : Device) : Device :=
  { d with nl := d.nl.post d.time.clock kind subject detail }

/-- The attention line: asserted while the list holds a record whose kind is in the mask (R162). -/
def NoticeList.attention (l : NoticeList) : Bool :=
  l.notices.any fun n => l.mask.getLsbD n.kind.code

def Device.attentionLine (d : Device) : Bool := d.nl.attention

/-! ### Transport outputs (R47) -/

/-- The speed of the speed demand, in frames per second (R47's table). -/
def Device.speedDemand (d : Device) : Nat :=
  match d.tc.state with
  | .winding | .running => (d.tc.pass.map (·.speed)).getD 0
  | .limiting => 2
  | .empty | .threading | .stopped | .relaxing | .fault => 0

/-- The direction of the speed demand: that of the leg while winding, forward while running, and the remembered
one in LIMITING; absent at rest (R47's table). -/
def Device.demandDirection (d : Device) : Option Direction :=
  match d.tc.state with
  | .winding => d.tc.direction
  | .running => some .forward
  | .limiting => some (d.tc.direction.getD .forward)
  | .empty | .threading | .stopped | .relaxing | .fault => none

/-- The brake: on in STOPPED, RELAXING and FAULT (R47's table). -/
def Device.brake (d : Device) : Bool :=
  match d.tc.state with
  | .stopped | .relaxing | .fault => true
  | .empty | .threading | .winding | .running | .limiting => false

end Sys2Proof.Machine
end

