-- ==== Sys2Proof/Machine/Ops.lean ====
section
/-! DEFINITION. The named operations over the tables: reel records, slots, defect records, queues, and deadlines. -/

namespace Sys2Proof.Machine

/-! ### Reel records (R1) -/

def Device.findReel (d : Device) (id : Nat) : Option Reel := d.reels.find? fun r => decide (r.id = id)

/-- Change the record that carries the id (no two do, R1). -/
def Device.setReel (id : Nat) (f : Reel → Reel) (d : Device) : Device :=
  { d with reels := d.reels.map fun r => if r.id = id then f r else r }

/-- The reel of the current session (1.2). At most one reel is LOADED (R11). -/
def Device.loadedReel (d : Device) : Option Reel := d.reels.find? fun r => decide (r.state = .loaded)

/-- The subject of a notice about the LOADED reel. Where a rule that posts one is reached with no reel LOADED,
which the manual excludes (4.1), the subject is 0: DESIGN CHOICE (log 22). -/
def Device.loadedId (d : Device) : Nat := (d.loadedReel.map (·.id)).getD 0

def ReelState.slot? : ReelState → Option Nat
  | .shelved n | .outbound n | .returning n => some n
  | .acclimatizing _ | .ready | .loaded | .hold => none

def ReelState.deadline? : ReelState → Option Nat
  | .acclimatizing t => some t
  | .shelved _ | .outbound _ | .returning _ | .ready | .loaded | .hold => none

/-! ### Slots (R21, R27) -/

/-- The zone of a slot, fixed by its number (R21). -/
def zoneOf (slot : Nat) : Zone :=
  if slot < 128 then .cold else if slot < 192 then .frozen else if slot < 240 then .isolation else .workroom

/-- A slot's state; there is no slot above 255, and one would take no reel. -/
def Device.slot (d : Device) (n : Nat) : SlotState := d.vault.slots[n]?.getD .closed

def Device.setSlot (n : Nat) (v : SlotState) (d : Device) : Device :=
  { d with vault.slots := d.vault.slots.setIfInBounds n v }

/-- Whether the zone policy allows a class in a zone (R27). -/
def Device.allowed (d : Device) (cls : DecayClass) (z : Zone) : Bool :=
  (d.vault.masks.get cls).getLsbD z.code

/-- The usability test (R27). -/
def Device.usable (d : Device) (r : Reel) (slot : Nat) : Bool :=
  (decide (0 < r.deferred) && decide (zoneOf slot = .workroom)) || d.allowed r.cls (zoneOf slot)

/-! ### Deadlines (R44) -/

/-- The run counter now. -/
def Device.now (d : Device) : Nat := d.time.runCounter

/-- A deadline is present and the run counter has reached it (R44). -/
def Device.reached (d : Device) (deadline : Option Nat) : Bool :=
  match deadline with
  | some t => decide (t ≤ d.time.runCounter)
  | none => false

/-! ### The tracker -/

/-- The head frame, where a tracker is held; 0 where a rule that reads it is reached with none, which the manual
excludes (4.1): DESIGN CHOICE (log 22). -/
def Device.head (d : Device) : Nat := (d.pt.map (·.head)).getD 0

/-- N, the nominal pitch (R1, R71). -/
def Gauge.nominal : Gauge → Nat
  | .g35 => 4750
  | .g16 => 7620

/-- k, the perforations per frame (R1, R71). -/
def Gauge.perFrame : Gauge → Nat
  | .g35 => 4
  | .g16 => 1

/-! ### Defect records (R103) -/

def Device.findDefect (d : Device) (id : Nat) : Option Defect :=
  d.dm.records.find? fun r => decide (r.id = id)

/-- Change the record that carries the id. -/
def Device.setDefect (id : Nat) (f : Defect → Defect) (d : Device) : Device :=
  { d with dm.records := d.dm.records.map fun r => if r.id = id then f r else r }

/-- The record covers frame to frame + extent - 1 (R103). -/
def Defect.covers (r : Defect) (frame : Nat) : Bool :=
  decide (r.frame ≤ frame) && decide (frame < r.frame + r.extent)

/-- FOUND and QUEUED records take findings (R105). -/
def DefectState.takesFindings : DefectState → Bool
  | .found | .queued _ => true
  | .assigned _ _ | .repaired | .waived | .deferred => false

def DefectState.isQueued : DefectState → Bool
  | .queued _ => true
  | .found | .assigned _ _ | .repaired | .waived | .deferred => false

def DefectState.isAssigned : DefectState → Bool
  | .assigned _ _ => true
  | .found | .queued _ | .repaired | .waived | .deferred => false

def DefectState.priority? : DefectState → Option Priority
  | .queued p | .assigned p _ => some p
  | .found | .repaired | .waived | .deferred => none

def DefectState.station? : DefectState → Option Nat
  | .assigned _ s => some s
  | .found | .queued _ | .repaired | .waived | .deferred => none

/-- A FOUND record of kind SCAN_GAP (R9, R118). -/
def Defect.openGap (r : Defect) : Bool := decide (r.kind = .scanGap) && decide (r.state = .found)

/-! ### Queues and stations (R120, R121) -/

def StationState.held? : StationState → Option Entry
  | .working e => some e
  | .offline | .idle => none

def StationState.isWorking (s : StationState) : Bool := s.held?.isSome

/-- The occupancy: the entries in the four queues and those held by stations (R120). -/
def Repair.occupancy (q : Repair) : Nat :=
  q.queues.p0.length + q.queues.p1.length + q.queues.p2.length + q.queues.p3.length
    + q.stations.toList.countP (·.state.isWorking)

/-- Join a queue at the tail (R121, append). -/
def Device.appendEntry (p : Priority) (e : Entry) (d : Device) : Device :=
  { d with rq.queues := d.rq.queues.set p (d.rq.queues.get p ++ [e]) }

/-- Join a queue ahead of every entry in it (R121, place at front). -/
def Device.frontEntry (p : Priority) (e : Entry) (d : Device) : Device :=
  { d with rq.queues := d.rq.queues.set p (e :: d.rq.queues.get p) }

/-- The entry of a defect leaves its queue from any position (R121, take and remove). -/
def Device.dropEntry (p : Priority) (defect : Nat) (d : Device) : Device :=
  { d with rq.queues := d.rq.queues.set p ((d.rq.queues.get p).eraseP fun e => decide (e.defect = defect)) }

def Device.station (d : Device) (n : Nat) : Station := d.rq.stations[n]?.getD ⟨.offline, 0⟩

def Device.setStation (n : Nat) (s : Station) (d : Device) : Device :=
  { d with rq.stations := d.rq.stations.setIfInBounds n s }

end Sys2Proof.Machine
end

