-- ==== Sys2Proof/Machine/Operands.lean ====
section
/-! DEFINITION. Request operands: yes/no bytes, sets, clamping, the checks of the things a request names, and frame
references. -/

namespace Sys2Proof.Machine

/-! ### Answers -/

/-- A refusal that carries nothing and changes nothing (R175, step 4). -/
def refuse (s : Status) (d : Device) : Device × Answer := (d, ⟨s, []⟩)

/-- A refusal that carries a body and changes nothing. -/
def refuseWith (s : Status) (body : List Byte) (d : Device) : Device × Answer := (d, ⟨s, body⟩)

/-- OK_CLAMPED when a continuous value was brought into range, else OK (Introduction, Clamping and refusal). -/
def okOr (clamped : Bool) : Status := if clamped then .okClamped else .ok

/-! ### Bytes (R183) -/

/-- 1 is yes and 0 is no; any other value is none, and is refused. -/
def yesNo (b : Byte) : Option Bool :=
  if b = 1 then some true else if b = 0 then some false else none

/-- The nearest value in range. -/
def clampNat (lo hi n : Nat) : Nat := max lo (min hi n)

def clampInt (lo hi n : Int) : Int := max lo (min hi n)

/-- A density is at most 4095 (Introduction). -/
def clampDensity (x : BitVec 16) : Nat := min 4095 x.toNat

def densityClamped (c : PerChannel (BitVec 16)) : Bool := c.any fun x => decide (4095 < x.toNat)

/-! ### Things a request names -/

/-- The reel a request names: id 0 is BAD_VALUE, an id that no record carries NOT_FOUND, before any other check (R1). -/
def withReel (id : BitVec 32) (d : Device) (f : Reel → Device × Answer) : Device × Answer :=
  if id = 0 then refuse .badValue d
  else
    match d.findReel id.toNat with
    | none => refuse .notFound d
    | some r => f r

/-- The defect a request names: WRONG_STATE with no reel LOADED, then BAD_VALUE above 1023, then NOT_FOUND (R103). -/
def withDefect (id : BitVec 16) (d : Device) (f : Defect → Device × Answer) : Device × Answer :=
  if d.loadedReel.isNone then refuse .wrongState d
  else if 1023 < id.toNat then refuse .badValue d
  else
    match d.findDefect id.toNat with
    | none => refuse .notFound d
    | some r => f r

/-- The shot a request names: WRONG_STATE with no reel LOADED, BAD_VALUE above 511, NOT_FOUND past the table (R140). -/
def withShot (index : BitVec 16) (d : Device) (f : Shot → Device × Answer) : Device × Answer :=
  if d.loadedReel.isNone then refuse .wrongState d
  else if 511 < index.toNat then refuse .badValue d
  else
    match d.gu.shots[index.toNat]? with
    | none => refuse .notFound d
    | some s => f s

/-! ### Frame references (R81) -/

/-- The frame a reference names, formed exactly, or the status of the first failing check. -/
def Device.resolve (d : Device) (ref : FrameRef) : Except Status Nat :=
  match d.loadedReel, d.pt with
  | some r, some t =>
    let base : Option (Option Nat) :=
      match ref.mode.toNat with
      | 0 => some (some 0)
      | 1 => some (some t.head)
      | 2 => some t.markA
      | 3 => some t.markB
      | _ => none
    match base with
    | some (some b) =>
      let frame : Int := (b : Int) + ref.value.toInt
      if 0 ≤ frame ∧ frame ≤ (r.length : Int) - 1 then .ok frame.toNat else .error .badValue
    | some none => .error .badValue
    | none => .error .badValue
  | _, _ => .error .wrongState

/-- Carry on with the frame a reference names, or refuse. -/
def withFrame (ref : FrameRef) (d : Device) (f : Nat → Device × Answer) : Device × Answer :=
  match d.resolve ref with
  | .ok frame => f frame
  | .error s => refuse s d

end Sys2Proof.Machine
end

