-- ==== Sys2Proof/Machine/Layouts.lean ====
section
/-! DEFINITION. Reply bodies and records: every field most significant byte first, in the order its rule lists it
(R183, 12.4, 12.5). Orders and widths that 12.5 does not tabulate are DEDUCED from R183 (log 13). -/

namespace Sys2Proof.Machine

/-! ### Fields (R183) -/

def u8 (n : Nat) : List Byte := [BitVec.ofNat 8 n]
def u16 (n : Nat) : List Byte := be16 (BitVec.ofNat 16 n)
def u32 (n : Nat) : List Byte := be32 (BitVec.ofNat 32 n)
def u48 (n : Nat) : List Byte := u16 (n / 2 ^ 32) ++ u32 n
def i8 (z : Int) : List Byte := [BitVec.ofInt 8 z]
def i16 (z : Int) : List Byte := be16 (BitVec.ofInt 16 z)
def flag (b : Bool) : List Byte := u8 (if b then 1 else 0)

/-- An absent one-byte field is written 255. -/
def u8? (x : Option Nat) : List Byte := u8 (x.getD 255)

/-- An absent two-byte field is written 65,535. -/
def u16? (x : Option Nat) : List Byte := u16 (x.getD 65535)

/-- An absent signed two-byte field is written -32,768. -/
def i16? (x : Option Int) : List Byte := i16 (x.getD (-32768))

/-- A presence byte, then the value's bytes, sent as zeros when it is absent. -/
def present (width : Nat) (x : Option (List Byte)) : List Byte :=
  match x with
  | some bytes => u8 1 ++ bytes
  | none => u8 0 ++ List.replicate width 0

/-- A run-counter value, whose whole range is in use: a presence byte, then six bytes (R183; log 13). -/
def counterBytes (n : Option Nat) : List Byte := present 6 (n.map u48)

/-- A head frame, whose whole range is in use: a presence byte, then two bytes (R183; log 13). -/
def headBytes (n : Option Nat) : List Byte := present 2 (n.map u16)

/-- A value in a width of so many bytes, most significant first. -/
def beBytes (width n : Nat) : List Byte := (List.range width).map fun i => BitVec.ofNat 8 (n / 256 ^ (width - 1 - i))

/-- The bytes that the range of a field without a stated width needs: N to 7,620, k and c to 4, P16 to 134,112 and E
to 8,382 (R71), the accumulator count to 255 (R147), an output code to 1,023 (R153). -/
def leastWidth : Config.UnsizedField → Nat
  | .perforationsPerFrame | .perforationCount | .accumulatorCount => 1
  | .nominalPitch | .expectedPitch | .outputCode => 2
  | .smoothedPitch => 3

/-- The width of such a field: at least what its range needs, and otherwise open. DESIGN CHOICE (log 11). -/
def fieldWidth (f : Config.UnsizedField) : Nat := leastWidth f + Config.extraWidth f

/-- A field without a stated width, most significant byte first. Absent, it is written 255 in one byte and 65,535 in
two; what stands for absence in a wider one is not stated (log 11). -/
def unsized (f : Config.UnsizedField) (x : Option Nat) : List Byte :=
  match x with
  | some n => beBytes (fieldWidth f) n
  | none =>
    if fieldWidth f ≤ 2 then List.replicate (fieldWidth f) 255 else beBytes (fieldWidth f) (Config.absentValue f)

/-- A list of records is preceded by a one-byte count. -/
def counted {α : Type} (f : α → List Byte) (l : List α) : List Byte := u8 l.length ++ l.flatMap f

/-- Suite time: seconds, then microseconds. -/
def timeBytes (t : SuiteTime) : List Byte := u32 t.seconds ++ u32 t.micros

/-! ### Records (12.5) -/

/-- The reel record, 31 bytes; the deadline is the milliseconds left on the run counter (12.5). -/
def Reel.bytes (now : Nat) (r : Reel) : List Byte :=
  u32 r.id ++ u16 r.length ++ be32 r.label ++ u8 (r.cls.code + 16 * r.home.code) ++ u8 r.state.code
    ++ u8 (r.gauge.code + (if r.permit then 2 else 0) + (if r.graded then 4 else 0)
        + (if r.sessionLost then 8 else 0) + (if r.state.slot?.isSome then 16 else 0))
    ++ u8 (r.state.slot?.getD 0) ++ u8 r.passes ++ u16 r.shrinkage ++ u16 r.passTotal
    ++ r.fadeRef.toList.flatMap u16 ++ u16 r.deferred ++ u32 ((r.state.deadline?.map (· - now)).getD 0)

/-- The defect record, 22 bytes (12.5). -/
def Defect.bytes (r : Defect) : List Byte :=
  u16 r.id ++ u16 r.frame ++ u8 r.extent ++ u8 r.kind.code ++ u8 r.state.code ++ u8 r.severity
    ++ u8 r.origin.code ++ u16 r.detail ++ timeBytes r.found ++ u8? (r.state.priority?.map (·.code))
    ++ u8? r.state.station? ++ flag r.refused

/-- E, g and o, each red, green, blue: 18 bytes (12.4, 12.5). -/
def gradeBytes (g : Grade) : List Byte :=
  g.toList.flatMap (fun c => u16 c.black) ++ g.toList.flatMap (fun c => u16 c.gain)
    ++ g.toList.flatMap (fun c => i16 c.offset)

/-- The shot record, 31 bytes (12.5). -/
def Shot.bytes (index last : Nat) (s : Shot) : List Byte :=
  u16 index ++ u16 s.first ++ u16 last ++ be32 s.label ++ flag s.snapshot.isSome
    ++ (match s.snapshot with
        | some g => gradeBytes g
        | none => List.replicate 18 0)
    ++ u16 s.clipRisk

/-- One channel of a rule record: b, g, o, p (12.5). -/
def ChannelRule.bytes (c : ChannelRule) : List Byte := u16 c.black ++ u16 c.gain ++ i16 c.offset ++ i8 c.trim

/-- The rule record, 33 bytes (12.5). -/
def Rule.bytes (index : Nat) (r : Rule) : List Byte :=
  u8 index ++ flag r.enabled ++ be32 r.key ++ u8 r.length ++ r.channels.toList.flatMap ChannelRule.bytes
    ++ u8 r.fadeMode.code ++ i16 r.fixedFade ++ u8 r.fadeGain ++ flag r.exclude

/-- The notice record, 16 bytes (12.5). -/
def Notice.bytes (n : Notice) : List Byte :=
  u8 n.kind.code ++ u32 n.subject ++ timeBytes n.first ++ u8 n.repeats ++ u16 n.detail

/-- The packed grade of an order entry: 12-bit E, 13-bit g, 10-bit signed o, seven zero bits (12.5). -/
def packedGrade (g : Grade) : BitVec 112 :=
  let e (c : ChannelGrade) : BitVec 12 := BitVec.ofNat 12 c.black
  let k (c : ChannelGrade) : BitVec 13 := BitVec.ofNat 13 c.gain
  let o (c : ChannelGrade) : BitVec 10 := BitVec.ofInt 10 c.offset
  (e g.red ++ e g.green ++ e g.blue ++ k g.red ++ k g.green ++ k g.blue ++ o g.red ++ o g.green ++ o g.blue
    ++ (0 : BitVec 7)).cast (by decide)

/-- The bytes of a packed grade, from the most significant bit. -/
def packedBytes (x : BitVec 112) : List Byte :=
  (List.range 14).map fun i => x.extractLsb' (8 * (13 - i)) 8

/-- The order entry of CAPTURE_STATUS, 30 bytes; the deadline is the milliseconds remaining (12.5). -/
def Order.entryBytes (now : Nat) (o : Order) : List Byte :=
  [o.tag] ++ u16 o.pass ++ u16 o.frame ++ u16 o.shot ++ packedBytes (packedGrade o.grade) ++ u32 o.issued.seconds
    ++ u8 (o.issued.micros / 65536) ++ u16 o.issued.micros ++ u16 (o.deadline - now)

/-- The body of a CAPTURE_ORDER frame, 32 bytes (12.4). -/
def Order.body (o : Order) : List Byte :=
  u16 o.pass ++ u16 o.frame ++ u16 o.shot ++ gradeBytes o.grade ++ timeBytes o.issued

/-- The CAPTURE_ORDER frame of an order: kind 160 on address 0 (R179, 11.7, 12.4). -/
def Order.frameOf (o : Order) : List LineChar := frameChars 0 (requestData o.tag 160 o.body)

/-- A station record, in the order of R124's table. -/
def Station.bytes (s : Station) : List Byte :=
  flag (decide (s.state ≠ .offline)) ++ u8 s.mask.toNat ++ u8 s.state.code ++ u16? (s.state.held?.map (·.defect))

/-- A station's state and the id it holds (R127), absent where it holds none (log 13). -/
def Station.holding (s : Station) : List Byte := u8 s.state.code ++ u16? (s.state.held?.map (·.defect))

def UndoRecord.bytes (u : UndoRecord) : List Byte := u16 u.defect ++ u8 u.station ++ u8 u.priority.code

/-- The stored settings, as SET_TRANSPORT carries them; a limit cap of 0 means none (R49, R183). -/
def TransportSettings.bytes (t : TransportSettings) : List Byte :=
  u8 t.threadingTime ++ u16 t.faultTime ++ u8 t.retryPolicy.code ++ u16 t.relaxTime ++ u16 t.slipMargin
    ++ u8 t.slipAction.code ++ u16 (t.limitCap.getD 0)

/-- The pass record: start frame, end frame, speed, pass number (R47). -/
def PassRecord.bytes (p : PassRecord) : List Byte := u16 p.first ++ u16 p.last ++ u8 p.speed ++ u16 p.number

/-- The incident record's fields in the order of R67's table, 30 bytes; an absent pass number is 0 (R183). -/
def Incident.bytes (i : Incident) : List Byte :=
  u8 i.cause.code ++ timeBytes i.time ++ counterBytes (some i.runCounter) ++ headBytes (some i.head)
    ++ u16 (i.pass.getD 0) ++ u16 i.feed ++ u16 i.takeUp ++ u16 i.integrator ++ u8 i.retries ++ u16 i.shrinkage

/-- The capture settings, as SET_CAPTURE carries them (R87). -/
def Capture.settingsBytes (c : Capture) : List Byte := u16 c.timeout ++ u16 c.dustLimit ++ u16 c.scratchLimit

def PerKind.toList {α : Type} (t : PerKind α) : List α := DefectKind.all.map t.get

/-! ### Reply frames (R176, R184) -/

/-- The status character: the code in the low four bits, the lost flag in the top bit (R184). -/
def statusChar (s : Status) (lost : Bool) : Byte := BitVec.ofNat 8 (s.code + if lost then 128 else 0)

/-- A reply frame: the unit address plus 16, then tag, status, kind, length and body, then the check (R184). -/
def replyFrame (address : BitVec 3) (lost : Bool) (r : Reply) : List LineChar :=
  frameChars (BitVec.ofNat 8 (address.toNat + 16))
    (r.tag :: statusChar r.answer.status lost :: r.kind :: BitVec.ofNat 8 r.answer.body.length :: r.answer.body)

end Sys2Proof.Machine
end

