-- ==== Sys2Proof/Machine/Grades.lean ====
section
/-! DEFINITION. The Grading Unit: shots, grade rules, fade statistics, the resolution of a grade, output codes and
the clip check (09_grading.md). -/

namespace Sys2Proof.Machine

/-! ### Shots (R140) -/

/-- The index of the shot that holds a frame: the one with the greatest first frame at or below it. Shots stand in
ascending order of first frame, so it is the last such. -/
def Grading.shotIndex (g : Grading) (frame : Nat) : Nat := g.shots.countP (fun s => decide (s.first ≤ frame)) - 1

def Grading.shotAt (g : Grading) (frame : Nat) : Option Shot := g.shots[g.shotIndex frame]?

/-- The last frame of a shot: the one before the next shot, or length - 1 for the last (R140). -/
def Grading.lastFrame (g : Grading) (length index : Nat) : Nat :=
  match g.shots[index + 1]? with
  | some s => s.first - 1
  | none => length - 1

def Device.setShots (shots : List Shot) (d : Device) : Device := { d with gu.shots := shots }

/-- The length of the LOADED reel. -/
def Device.reelLength (d : Device) : Nat := (d.loadedReel.map (·.length)).getD 0

/-! ### Rules (R145, R146) -/

/-- The leading bits of a 32-bit value, counted from the most significant (R146). -/
def leading (length : Nat) (x : BitVec 32) : BitVec 32 := x >>> (32 - length)

def Rule.matches (r : Rule) (label : BitVec 32) : Bool :=
  r.enabled && decide (leading r.length label = leading r.length r.key)

/-- The better of the winner so far and the next rule: greater compared length, then higher index (R146). -/
def betterRule (label : BitVec 32) (best : Option (Nat × Rule)) (next : Rule × Nat) : Option (Nat × Rule) :=
  if next.1.matches label then
    match best with
    | some (i, r) => if r.length ≤ next.1.length then some (next.2, next.1) else some (i, r)
    | none => some (next.2, next.1)
  else best

/-- The winning rule for a label with its index; none when the identity grade applies (R146). -/
def Grading.winner (g : Grading) (label : BitVec 32) : Option (Nat × Rule) :=
  g.rules.toList.zipIdx.foldl (betterRule label) none

/-- The identity grade (R146). -/
def Rule.identity : Rule :=
  let channel : ChannelRule := { black := 0, gain := 1024, offset := 0, trim := 0 }
  { Rule.cleared with channels := ⟨channel, channel, channel⟩ }

def Grading.ruleFor (g : Grading) (label : BitVec 32) : Rule := ((g.winner label).map (·.2)).getD Rule.identity

/-- The exclusion question: the winning rule's exclude flag, no when none wins (R152). -/
def Grading.excludes (g : Grading) (frame : Nat) : Bool :=
  match g.shotAt frame with
  | some s => (g.ruleFor s.label).exclude
  | none => false

/-! ### Resolution (R150) -/

/-- The fade of one channel (R150, step 3). -/
def fadeOf (r : Rule) (reference : Nat) (f : FadeChannel) : Int :=
  match r.fadeMode with
  | .auto =>
    if f.valid ∧ reference ≠ 0 then
      clampInt (-400) 400 ((((reference : Int) - f.mean) * r.fadeGain).tdiv 16)
    else 0
  | .fixed => r.fixedFade
  | .off => 0

/-- The effective black point: b - 25p - f, brought within 0 to 4095 (R150, step 4). -/
def effectiveBlack (c : ChannelRule) (fade : Int) : Nat :=
  (clampInt 0 4095 ((c.black : Int) - 25 * c.trim - fade)).toNat

/-- The three fades a rule gives now (R150, step 3); the reference is the LOADED reel's. -/
def Device.fades (d : Device) (r : Rule) : PerChannel Int :=
  let reference : PerChannel Nat := (d.loadedReel.map (·.fadeRef)).getD ⟨0, 0, 0⟩
  PerChannel.zipWith (fadeOf r) reference d.gu.fade

/-- Steps 2 to 5 of R150 for a label. -/
def Device.gradeOfLabel (d : Device) (label : BitVec 32) : Grade :=
  let r := d.gu.ruleFor label
  PerChannel.zipWith (fun c f => { black := effectiveBlack c f, gain := c.gain, offset := c.offset })
    r.channels (d.fades r)

/-- The grade of a shot: its snapshot when locked, else steps 2 to 5 (R150). -/
def Device.gradeOfShot (d : Device) (s : Shot) : Grade := s.snapshot.getD (d.gradeOfLabel s.label)

/-- The grade of a frame (R150, R151). -/
def Device.gradeAt (d : Device) (frame : Nat) : Grade :=
  match d.gu.shotAt frame with
  | some s => d.gradeOfShot s
  | none => d.gradeOfLabel 0

/-! ### Output codes (R153) -/

def outputCode (g : ChannelGrade) (density : Nat) : Nat :=
  (clampInt 0 1023 (g.offset + (((density : Int) - g.black) * g.gain + 2048).fdiv 4096)).toNat

def outputCodes (g : Grade) (density : PerChannel Nat) : PerChannel Nat := PerChannel.zipWith outputCode g density

/-! ### Statistics (R147, R148) -/

/-- The window is 2^n frames (R147). -/
def Grading.windowFrames (g : Grading) : Nat := 2 ^ g.window

/-- One included base density; at the full window the mean is published (R147). -/
def FadeChannel.add (window : Nat) (f : FadeChannel) (base : Nat) : FadeChannel :=
  let sum := f.sum + base
  let count := f.count + 1
  if window ≤ count then { f with sum := 0, count := 0, mean := sum / window, valid := true }
  else { f with sum := sum, count := count }

/-- One included mean density widens the extremes (R148). -/
def FadeChannel.widen (f : FadeChannel) (mean : Nat) : FadeChannel :=
  match f.extremes with
  | none => { f with extremes := some (mean, mean) }
  | some (lo, hi) => { f with extremes := some (min lo mean, max hi mean) }

/-- GU takes an included report's densities (R147, R148). -/
def Device.takeStatistics (mean base : PerChannel Nat) (d : Device) : Device :=
  let added := PerChannel.zipWith (FadeChannel.add d.gu.windowFrames) d.gu.fade base
  { d with gu.fade := PerChannel.zipWith FadeChannel.widen added mean }

/-! ### Clip check (R154) -/

def clipCode (code : Nat) : Bool := decide (code ≤ 31) || decide (992 ≤ code)

/-- A clip risk raises the count of the shot that now holds the frame, once, and is noticed (R154). -/
def Device.clipCheck (frame : Nat) (mean : PerChannel Nat) (g : Grade) (d : Device) : Device :=
  if (outputCodes g mean).any clipCode then
    let i := d.gu.shotIndex frame
    (d.setShots (d.gu.shots.modify i fun s => { s with clipRisk := bump16 s.clipRisk })).post .clipRisk i frame
  else d

/-! ### Requests -/

/-- DEFINE_SHOT (R141). -/
def answerDefineShot (ref : FrameRef) (label : BitVec 32) (d : Device) : Device × Answer :=
  withFrame ref d fun frame =>
    let i := d.gu.shotIndex frame
    match d.gu.shots[i]? with
    | none => refuse .wrongState d
    | some s =>
      if s.snapshot.isSome then refuse .locked d
      else
        let reply (d : Device) (i : Nat) : Answer :=
          ⟨.ok, u16 i ++ u16 frame ++ u16 (d.gu.lastFrame d.reelLength i)⟩
        if s.first = frame then
          let d := d.setShots (d.gu.shots.modify i fun s => { s with label := label })
          (d, reply d i)
        else if 512 ≤ d.gu.shots.length then refuse .full d
        else
          let new : Shot := { first := frame, label := label, snapshot := none, clipRisk := 0 }
          let d := d.setShots (d.gu.shots.insertIdx (i + 1) new)
          (d, reply d (i + 1))

/-- DELETE_SHOT (R142). -/
def answerDeleteShot (index : BitVec 16) (d : Device) : Device × Answer :=
  withShot index d fun s =>
    let i := index.toNat
    if i = 0 then refuse .badValue d
    else if s.snapshot.isSome ∨ (d.gu.shots[i - 1]?.any (·.snapshot.isSome)) then refuse .locked d
    else
      let d := d.setShots (d.gu.shots.eraseIdx i)
      (d, ⟨.ok, u16 (i - 1) ++ u16 (d.gu.lastFrame d.reelLength (i - 1))⟩)

/-- LOCK_SHOT (R143). -/
def answerLockShot (index : BitVec 16) (d : Device) : Device × Answer :=
  withShot index d fun s =>
    if s.snapshot.isSome then refuse .wrongState d
    else
      let g := d.gradeOfLabel s.label
      (d.setShots (d.gu.shots.modify index.toNat fun s => { s with snapshot := some g }), ⟨.ok, gradeBytes g⟩)

/-- UNLOCK_SHOT (R143). -/
def answerUnlockShot (index : BitVec 16) (d : Device) : Device × Answer :=
  withShot index d fun s =>
    if s.snapshot.isNone then refuse .wrongState d
    else (d.setShots (d.gu.shots.modify index.toNat fun s => { s with snapshot := none }), ⟨.ok, []⟩)

/-- LIST_SHOTS (R144). -/
def answerListShots (start : BitVec 16) (d : Device) : Device × Answer :=
  let i := start.toNat
  if 511 < i then refuse .badValue d
  else
    let n := d.gu.shots.length
    let listed := ((d.gu.shots.drop i).take 8).zipIdx i
    (d, ⟨.ok, u16 n ++ counted (fun p => p.1.bytes p.2 (d.gu.lastFrame d.reelLength p.2)) listed
      ++ u16? (if i + 8 < n then some (i + 8) else none)⟩)

/-- One channel of SET_RULE as stored, and whether a value was brought into range (R145). -/
def storedChannel (c : ChannelRuleOperands) : ChannelRule :=
  { black := min 4095 c.black.toNat, gain := min 8191 c.gain.toNat
    offset := clampInt (-512) 511 c.offset.toInt, trim := clampInt (-50) 50 c.trim.toInt }

def channelClamped (c : ChannelRuleOperands) : Bool :=
  decide (storedChannel c ≠ { black := c.black.toNat, gain := c.gain.toNat, offset := c.offset.toInt, trim := c.trim.toInt })

/-- SET_RULE (R145). -/
def answerSetRule (op : RuleOperands) (d : Device) : Device × Answer :=
  if 31 < op.rule.toNat ∨ 32 < op.length.toNat then refuse .badValue d
  else
    match yesNo op.enabled, FadeMode.ofCode op.fadeMode.toNat, yesNo op.exclude with
    | some enabled, some fadeMode, some exclude =>
      let r : Rule :=
        { enabled, key := op.key, length := op.length.toNat, channels := op.channels.map storedChannel, fadeMode
          fixedFade := clampInt (-400) 400 op.fixedFade.toInt, fadeGain := min 16 op.fadeGain.toNat, exclude }
      let clamped := op.channels.any channelClamped || decide (r.fixedFade ≠ op.fixedFade.toInt)
        || decide (16 < op.fadeGain.toNat)
      ({ d with gu.rules := d.gu.rules.setIfInBounds op.rule.toNat r }, ⟨okOr clamped, r.bytes op.rule.toNat⟩)
    | _, _, _ => refuse .badValue d

/-- CLEAR_RULE (R145). -/
def answerClearRule (rule : Byte) (d : Device) : Device × Answer :=
  if 31 < rule.toNat then refuse .badValue d
  else ({ d with gu.rules := d.gu.rules.setIfInBounds rule.toNat Rule.cleared }, ⟨.ok, []⟩)

/-- SET_FADE_WINDOW (R149). -/
def answerSetFadeWindow (exponent : Byte) (d : Device) : Device × Answer :=
  if 8 < exponent.toNat then refuse .badValue d
  else
    ({ d with gu.window := exponent.toNat, gu.fade := d.gu.fade.map fun f => { f with sum := 0, count := 0 } },
      ⟨.ok, []⟩)

/-- CLEAR_EXTREMES (R149). -/
def answerClearExtremes (d : Device) : Device × Answer :=
  ({ d with gu.fade := d.gu.fade.map fun f => { f with extremes := none } }, ⟨.ok, []⟩)

/-- One channel as FADE_STATUS returns it (R149); the width of the count is not given (log 11). -/
def FadeChannel.bytes (f : FadeChannel) : List Byte :=
  u32 f.sum ++ unsized .accumulatorCount (some f.count) ++ u16 f.mean ++ flag f.valid
    ++ u16? (f.extremes.map (·.1)) ++ u16? (f.extremes.map (·.2))

/-- FADE_STATUS (R149), channel by channel, each with all its fields: DESIGN CHOICE (log 32). The mean and the
extremes take two bytes, as densities (log 35). -/
def answerFadeStatus (d : Device) : Device × Answer :=
  (d, ⟨.ok, u8 d.gu.window ++ d.gu.fade.toList.flatMap FadeChannel.bytes⟩)

/-- EVALUATE_GRADE (R155); the width of an output code is not given (log 11). E, g and o stand as in a shot record, each
field for all three channels: DESIGN CHOICE (log 32); E takes two bytes, as there (log 35). -/
def answerEvaluateGrade (ref : FrameRef) (density : PerChannel (BitVec 16)) (d : Device) : Device × Answer :=
  withFrame ref d fun frame =>
    let i := d.gu.shotIndex frame
    match d.gu.shotAt frame with
    | none => refuse .wrongState d
    | some s =>
      let g := d.gradeOfShot s
      let fade (f : Int) : Option Int := if s.snapshot.isSome then none else some f
      (d, ⟨okOr (densityClamped density),
        u16 frame ++ u16 i ++ flag s.snapshot.isSome
          ++ u8? (if s.snapshot.isSome then none else (d.gu.winner s.label).map (·.1))
          ++ (d.fades (d.gu.ruleFor s.label)).toList.flatMap (fun f => i16? (fade f)) ++ gradeBytes g
          ++ (outputCodes g (density.map clampDensity)).toList.flatMap
              fun code => unsized .outputCode (some code)⟩)

/-! ### Sessions (R156 to R158) -/

/-- How many shots are unlocked (R152). -/
def Grading.unlocked (g : Grading) : Nat := g.shots.countP (·.snapshot.isNone)

/-- At a forced unload every unlocked shot is locked with its grade of the moment (R10, R157). -/
def Device.lockAll (d : Device) : Device :=
  d.setShots (d.gu.shots.map fun s => { s with snapshot := some (d.gradeOfShot s) })

def Grading.fadeCleared : PerChannel FadeChannel :=
  ⟨FadeChannel.cleared, FadeChannel.cleared, FadeChannel.cleared⟩

/-- GU with no session: rules and window kept (R157, R158). -/
def Grading.emptied (g : Grading) : Grading := { g with shots := [], fade := Grading.fadeCleared }

/-- GU at a load (R156). -/
def Grading.loaded (g : Grading) (label : BitVec 32) : Grading :=
  { g.emptied with shots := [{ first := 0, label, snapshot := none, clipRisk := 0 }] }

end Sys2Proof.Machine
end

