-- ==== Sys2Proof/Machine/Defects.lean ====
section
/-! DEFINITION. The Defect Map: recording of findings, auto-queueing, and the owner's answers to the defect
requests (07_defect_map.md); with them RQ's enqueue (R122, R123). -/

namespace Sys2Proof.Machine

/-! ### Enqueueing (R110, R122, R123) -/

/-- The priority a severity gives (R110). -/
def severityPriority (severity : Nat) : Priority :=
  if 6 ≤ severity then .p3 else if 4 ≤ severity then .p2 else if 2 ≤ severity then .p1 else .p0

/-- The occupancy at which an enqueue at the priority is refused (R122). -/
def refusalLevel : Priority → Nat
  | .p0 => 160
  | .p1 => 176
  | .p2 => 188
  | .p3 => 192

/-- Whether RQ accepts an enqueue at the priority (R122). -/
def Device.accepts (d : Device) (p : Priority) : Bool := decide (d.rq.occupancy < refusalLevel p)

/-- One enqueue of a FOUND defect: accepted at the tail (R122), or refused, counted and noticed (R123). -/
def Device.enqueue (p : Priority) (r : Defect) (d : Device) : Device :=
  if d.accepts p then
    (d.appendEntry p ⟨r.id, r.kind⟩).setDefect r.id fun x => { x with state := .queued p, refused := false }
  else
    ((d.setDefect r.id fun x => { x with refused := true }).count (.refusal p)).post .queueRefused p.code r.id

/-- The auto-queue test on the record that took a finding (R110). -/
def Device.autoQueue (id : Nat) (d : Device) : Device :=
  match d.findDefect id with
  | some r =>
    if r.state = .found ∧ d.dm.thresholds.get r.kind < 8 ∧ d.dm.thresholds.get r.kind ≤ r.severity then
      d.enqueue (severityPriority r.severity) r
    else d
  | none => d

/-! ### Findings (R106 to R109) -/

/-- One report of damage at one frame (7.4). -/
structure Finding where
  kind     : DefectKind
  frame    : Nat
  severity : Nat
  detail   : Nat
  origin   : Origin
  deriving DecidableEq, Repr

/-- A record takes a finding's severity and detail where they are larger (R107, R108). -/
def Defect.raise (f : Finding) (r : Defect) : Defect :=
  { r with severity := max r.severity f.severity, detail := max r.detail f.detail }

/-- The record a finding merges into (R107). -/
def Defect.merges (f : Finding) (r : Defect) : Bool :=
  decide (r.kind = f.kind) && r.state.takesFindings && r.covers f.frame

/-- The record a finding extends (R108). -/
def Defect.extendsTo (f : Finding) (r : Defect) : Bool :=
  decide (r.kind = f.kind) && r.state.takesFindings && decide (1 ≤ f.frame) && decide (r.frame + r.extent = f.frame)
    && decide (r.extent < 255)

/-- Record a finding by the first of merge, extension or new record that applies, then make the auto-queue test.
The second part is the id of the record that took it, absent when it was lost to a full map. Records stand in id
order, so the first that qualifies has the lowest id. -/
def Device.record (f : Finding) (d : Device) : Device × Option Nat :=
  match d.dm.records.find? (·.merges f) with
  | some r => ((d.setDefect r.id (·.raise f)).autoQueue r.id, some r.id)
  | none =>
    match if f.kind.extends then d.dm.records.find? (·.extendsTo f) else none with
    | some r => ((d.setDefect r.id fun x => { x.raise f with extent := x.extent + 1 }).autoQueue r.id, some r.id)
    | none =>
      let id := d.dm.records.length
      if id < 1024 then
        let r : Defect :=
          { id, frame := f.frame, extent := 1, kind := f.kind, severity := f.severity, state := .found
            origin := f.origin, detail := f.detail, found := d.time.clock, refused := false }
        (({ d with dm.records := d.dm.records ++ [r] } : Device).autoQueue id, some id)
      else ((d.count .mapOverflow).post .mapFull 0 f.frame, none)

/-- DM takes a finding whole; one with no reel LOADED or outside the reel is discarded (R106). -/
def Device.finding (f : Finding) (d : Device) : Device :=
  match d.loadedReel with
  | some r => if f.frame < r.length then (d.record f).1 else d
  | none => d

/-! ### Answers to other blocks (R118) -/

/-- A defect covering the frame keeps it out of the statistics (R97, R118). -/
def Device.damaged (d : Device) (frame : Nat) : Bool :=
  d.dm.records.any fun r =>
    r.covers frame && decide (r.state ≠ .waived) && decide (r.state ≠ .repaired) && decide (4 ≤ r.severity)

/-- Every FOUND SCAN_GAP that covers the frame becomes REPAIRED (R96, R118). -/
def Device.resolveGaps (frame : Nat) (d : Device) : Device :=
  { d with dm.records := d.dm.records.map fun r =>
      if r.openGap && r.covers frame then { r with state := .repaired } else r }

/-- The open work of the map (R10, R118). -/
def Defect.openWork (r : Defect) : Bool := r.state.isQueued || r.state.isAssigned || r.openGap

/-- Deferral: the open work becomes DEFERRED (R10, R118). -/
def Device.deferOpenWork (d : Device) : Device :=
  { d with dm.records := d.dm.records.map fun r => if r.openWork then { r with state := .deferred } else r }

/-! ### Requests (R111 to R117) -/

def defaultThreshold : PerKind Nat := ⟨3, 3, 0, 0, 4, 5, 4, 8⟩

/-- SET_DEFECT_POLICY (R111). The eight thresholds of the reply stand in the order of the kind codes: DESIGN CHOICE
(log 32). Each is one byte, as in the request: DEDUCED (log 35). -/
def answerSetDefectPolicy (kind threshold : Byte) (d : Device) : Device × Answer :=
  match DefectKind.ofCode kind.toNat with
  | none => refuse .badValue d
  | some k =>
    if 8 < threshold.toNat then refuse .badValue d
    else if k = .scanGap ∧ threshold.toNat < 8 then refuse .badValue d
    else
      let t := d.dm.thresholds.set k threshold.toNat
      ({ d with dm.thresholds := t }, ⟨.ok, t.toList.flatMap u8⟩)

/-- Findings at successive frames, each recorded and tested before the next; with what took each (R112). -/
def Device.addRun (f : Finding) : Nat → Device → Device × List (Option Nat)
  | 0, d => (d, [])
  | n + 1, d =>
    let (d, id) := d.record f
    let (d, ids) := Device.addRun { f with frame := f.frame + 1 } n d
    (d, id :: ids)

/-- ADD_DEFECT (R112). -/
def answerAddDefect (op : AddDefectOperands) (d : Device) : Device × Answer :=
  match d.loadedReel with
  | none => refuse .wrongState d
  | some reel =>
    match DefectKind.ofCode op.kind.toNat with
    | none => refuse .badValue d
    | some kind =>
      if 7 < op.severity.toNat ∨ op.count = 0 then refuse .badValue d
      else withFrame op.ref d fun frame =>
        if reel.length - 1 < frame + op.count.toNat - 1 then refuse .badValue d
        else
          let f : Finding := { kind, frame, severity := op.severity.toNat, detail := op.detail.toNat, origin := .host }
          let (d, ids) := d.addRun f op.count.toNat
          let lost := ids.countP (·.isNone)
          (d, ⟨if lost = 0 then .ok else .full,
            u16? (ids.head?.getD none) ++ u16? (ids.getLast?.getD none) ++ u8 lost⟩)

/-- The record as a request carries it out leaves it. -/
def recordBytes (d : Device) (id : Nat) : List Byte := ((d.findDefect id).map Defect.bytes).getD []

/-- QUEUE_DEFECT (R113): priority code 4 asks for the derived priority (R183). -/
def answerQueueDefect (defect : BitVec 16) (priority : Byte) (d : Device) : Device × Answer :=
  withDefect defect d fun r =>
    let asked : Option Priority :=
      if priority = 4 then some (severityPriority r.severity) else Priority.ofCode priority.toNat
    match asked with
    | none => refuse .badValue d
    | some p =>
      if r.kind = .scanGap then refuse .badValue d
      else if r.state ≠ .found then refuseWith .wrongState (u8 r.state.code) d
      else
        let d' := d.enqueue p r
        (d', ⟨if d.accepts p then .ok else .full, recordBytes d' r.id⟩)

/-- WAIVE_DEFECT (R114). -/
def answerWaiveDefect (defect : BitVec 16) (d : Device) : Device × Answer :=
  withDefect defect d fun r =>
    match r.state with
    | .found => (d.setDefect r.id fun x => { x with state := .waived }, ⟨.ok, []⟩)
    | .queued p => ((d.dropEntry p r.id).setDefect r.id fun x => { x with state := .waived }, ⟨.ok, []⟩)
    | .assigned _ s => refuseWith .busy (u8 s) d
    | .repaired | .waived | .deferred => refuse .wrongState d

/-- REQUEUE_DEFECT (R115). -/
def answerRequeueDefect (defect : BitVec 16) (priority : Byte) (d : Device) : Device × Answer :=
  withDefect defect d fun r =>
    match Priority.ofCode priority.toNat with
    | none => refuse .badValue d
    | some p =>
      match r.state with
      | .queued old =>
        let d := ((d.dropEntry old r.id).appendEntry p ⟨r.id, r.kind⟩).setDefect r.id
          fun x => { x with state := .queued p }
        (d, ⟨.ok, recordBytes d r.id⟩)
      | .assigned _ s => refuseWith .busy (u8 s) d
      | .found | .repaired | .waived | .deferred => refuse .wrongState d

/-- A record that LIST_DEFECTS asks for (R116). -/
def Defect.listed (op : ListDefectsOperands) (r : Defect) : Bool :=
  decide (op.start.toNat ≤ r.id) && op.kinds.getLsbD r.kind.code && op.states.getLsbD r.state.code
    && decide (r.frame ≤ op.last.toNat) && decide (op.first.toNat < r.frame + r.extent)

/-- LIST_DEFECTS (R116): the kind set uses bits 0 to 7 and the state set bits 0 to 5 (12.6). -/
def answerListDefects (op : ListDefectsOperands) (d : Device) : Device × Answer :=
  if 1023 < op.start.toNat ∨ 65534 < op.first.toNat ∨ 65534 < op.last.toNat ∨ op.last.toNat < op.first.toNat
      ∨ 64 ≤ op.states.toNat then refuse .badValue d
  else
    let found := d.dm.records.filter (·.listed op)
    (d, ⟨.ok, counted Defect.bytes (found.take 8) ++ u16? ((found[8]?).map (·.id))⟩)

/-- DEFECT_SUMMARY (R117). DESIGN CHOICE (log 32): the counts by kind and state stand kind by kind, those of a kind state
by state, each route has three counts, FOUND, QUEUED and ASSIGNED, and kinds, states, routes and thresholds stand in
the order of their codes. A threshold is one byte: DEDUCED (log 35). -/
def answerDefectSummary (d : Device) : Device × Answer :=
  let l := d.dm.records
  let kinds := DefectKind.all.flatMap fun k =>
    (List.range 6).flatMap fun s => u16 (l.countP fun r => decide (r.kind = k) && r.state.code == s)
  let routes := (List.range 3).flatMap fun route =>
    (List.range 3).flatMap fun s => u16 (l.countP fun r => r.kind.route == route && r.state.code == s)
  (d, ⟨.ok, u16 l.length ++ u16 (1024 - l.length) ++ kinds ++ routes
    ++ u16 (l.countP fun r => decide (r.state = .found) && r.refused)
    ++ u16 (l.countP (·.state.isQueued)) ++ u16 (l.countP (·.state.isAssigned)) ++ u16 (l.countP (·.openGap))
    ++ d.dm.thresholds.toList.flatMap u8⟩)

end Sys2Proof.Machine
end

