-- ==== Sys2Proof/Machine/Transports.lean ====
section
/-! DEFINITION. The Transport Controller: samples, threading, boundaries, pass ends, faults, and the requests that
need no other block's help (04_transport_control.md). -/

namespace Sys2Proof.Machine

/-! ### Limits (R48) -/

/-- The class limits in cN (R48). -/
def classLimit : DecayClass → Nat
  | .a => 160
  | .b => 120
  | .c => 90
  | .d => 60

/-- The effective tension limit L: the lesser of class limit and limit cap; with no reel LOADED the cap alone
(R48, R69). -/
def Device.limit (d : Device) : Option Nat :=
  match d.loadedReel, d.tc.settings.limitCap with
  | some r, some cap => some (min (classLimit r.cls) cap)
  | some r, none => some (classLimit r.cls)
  | none, cap => cap

/-- The integrator's top: 30 times the fault time (R59). -/
def TransportSettings.top (t : TransportSettings) : Nat := 30 * t.faultTime

/-- TC is capturing (R55). -/
def Device.capturing (d : Device) : Bool :=
  match d.tc.state with
  | .running => true
  | .limiting => decide (d.tc.remembered = some .running)
  | .empty | .threading | .stopped | .winding | .relaxing | .fault => false

/-- TC is winding, at full speed or at the crawl (R54, R58). -/
def Transport.isWinding (t : Transport) : Bool :=
  match t.state with
  | .winding => true
  | .limiting => decide (t.remembered = some .winding)
  | .empty | .threading | .stopped | .running | .relaxing | .fault => false

/-! ### Ends of a pass (R57) -/

/-- What becomes absent, dropped or released when a pass ends (R57, R62). -/
def Transport.passOver (t : Transport) (next : TransportState) : Transport :=
  { t with
    state := next, pass := none, pendingEnd := none, remembered := none, direction := none, target := none
    strainDue := none, slipDue := none, relaxDue := none, watch := .inactive, strainLine := false }

/-- A pass ends with a cause, and TC enters the given state (R57). -/
def Device.endPass (cause : PassEnd) (next : TransportState) (d : Device) : Device :=
  ({ d with tc := d.tc.passOver next } : Device).post .passEnded d.loadedId cause.code

/-- A pass ended from RELAXING: STOPPED, alignment lost (R56). -/
def Device.endRelaxing (cause : PendingEnd) (d : Device) : Device :=
  let d := d.endPass cause.cause .stopped
  { d with tc.aligned := false }

/-- A pass end asked for before the end frame (R56). -/
def Device.askEnd (cause : PendingEnd) (d : Device) : Device :=
  match d.tc.state with
  | .running | .winding | .limiting =>
    match d.tc.pendingEnd with
    | none => { d with tc.pendingEnd := some cause }
    | some _ => d
  | .relaxing => d.endRelaxing cause
  | .empty | .threading | .stopped | .fault => d

/-! ### Faults (R65, R67) -/

/-- The incident record of the moment (R67). -/
def Device.incidentNow (d : Device) (cause : FaultCause) : Incident :=
  { cause, time := d.time.clock, runCounter := d.time.runCounter, head := d.head, pass := d.tc.pass.map (·.number)
    feed := d.tc.feed, takeUp := d.tc.takeUp, integrator := d.tc.integrator, retries := d.tc.retries
    shrinkage := (d.pt.map (·.latest)).getD 0 }

/-- Entry to FAULT, in the order of R65: outputs and deadlines, incident, TRANSPORT_FAULT, end of the pass,
alignment and cause. -/
def Device.enterFault (cause : FaultCause) (d : Device) : Device :=
  let incident := d.tc.incident.getD (d.incidentNow cause)
  let d1 : Device :=
    { d with
      tc.strainLine := false, tc.threadingDue := none, tc.relaxDue := none, tc.strainDue := none
      tc.slipDue := none, tc.watch := .inactive
      tc.incident := some incident, tc.incidentCount := bump8 d.tc.incidentCount }
  let d2 := d1.post .transportFault cause.code d.head
  let d3 := if d2.tc.pass.isSome then d2.endPass .fault .fault else d2
  { d3 with tc.aligned := false, tc.faultCause := some cause, tc.state := .fault }

/-! ### Tension samples (R48, R58 to R63) -/

def Remembered.ofState : TransportState → Remembered
  | .winding => .winding
  | .empty | .threading | .stopped | .running | .limiting | .relaxing | .fault => .running

/-- Entry to LIMITING; the strain-warning persistence is 100 ms (R58, R62, R63). -/
def Device.enterLimiting (d : Device) : Device :=
  { d with
    tc.remembered := some (Remembered.ofState d.tc.state), tc.state := .limiting
    tc.strainDue := some (d.now + 100), tc.watch := .inactive, tc.slipDue := none }

/-- Return from LIMITING to the remembered state (R58, R62, R63). -/
def Device.leaveLimiting (d : Device) : Device :=
  { d with
    tc.state := (d.tc.remembered.getD .running).state, tc.remembered := none
    tc.strainDue := none, tc.strainLine := false, tc.watch := .armed }

/-- Limiting entry and exit on a sample (R58). -/
def Device.sampleLimit (f t : Nat) (d : Device) : Device :=
  match d.limit with
  | none => d
  | some l =>
    match d.tc.state with
    | .running | .winding => if l < max f t then d.enterLimiting else d
    | .limiting => if max f t + 10 ≤ l then d.leaveLimiting else d
    | .empty | .threading | .stopped | .relaxing | .fault => d

/-- Whether a retry remains (R60). -/
def Transport.retryRemains (t : Transport) : Bool :=
  match t.settings.retryPolicy with
  | .never => false
  | .count n => decide (t.retries < n)
  | .unlimited => true

/-- Entry to RELAXING; a pending end is carried out at once, with no relax timer set (R56, R61). -/
def Device.enterRelaxing (d : Device) : Device :=
  let d : Device :=
    { d with
      tc.state := .relaxing, tc.strainDue := none, tc.strainLine := false, tc.relaxExpired := false }
  match d.tc.pendingEnd with
  | some cause => d.endRelaxing cause
  | none => { d with tc.relaxDue := some (d.now + 1000 * d.tc.settings.relaxTime) }

/-- A trip (R60). -/
def Device.trip (d : Device) : Device :=
  if d.tc.retryRemains then ({ d with tc.retries := bump8 d.tc.retries } : Device).enterRelaxing
  else d.enterFault .strain

/-- The integrator on a sample (R59). -/
def Device.sampleIntegrator (d : Device) : Device :=
  match d.tc.state with
  | .limiting =>
    let level := min d.tc.settings.top (d.tc.integrator + 30)
    let d : Device := { d with tc.integrator := level }
    if d.tc.settings.top ≤ level then d.trip else d
  | .empty | .threading | .stopped | .winding | .running | .relaxing | .fault =>
    { d with tc.integrator := d.tc.integrator - 1 }

/-- Resumption from RELAXING on a sample (R61). -/
def Device.sampleResume (f t : Nat) (d : Device) : Device :=
  match d.tc.state with
  | .relaxing =>
    if d.tc.relaxExpired ∧ f < 30 ∧ t < 30 then
      { d with
        tc.state := (d.tc.remembered.getD .running).state, tc.remembered := none, tc.integrator := 0
        tc.relaxExpired := false, tc.watch := .armed }
    else d
  | .empty | .threading | .stopped | .winding | .running | .limiting | .fault => d

def difference (f t : Nat) : Nat := (f - t) + (t - f)

/-- The slip watch on a sample (R63). -/
def Device.sampleSlip (f t : Nat) (d : Device) : Device :=
  match d.tc.state with
  | .running | .winding =>
    if d.tc.settings.slipMargin < difference f t then
      match d.tc.watch with
      | .armed => { d with tc.watch := .timing, tc.slipDue := some (d.now + 100) }
      | .timing | .spent | .inactive => d
    else
      match d.tc.watch with
      | .timing => { d with tc.watch := .armed, tc.slipDue := none }
      | .spent => { d with tc.watch := .armed }
      | .armed | .inactive => d
  | .empty | .threading | .stopped | .limiting | .relaxing | .fault => d

/-- A tension sample: stored, then the four rules in order (R48). -/
def Device.sample (f t : Nat) (d : Device) : Device :=
  let d : Device := { d with tc.feed := f, tc.takeUp := t }
  (((d.sampleLimit f t).sampleIntegrator).sampleResume f t).sampleSlip f t

/-! ### Film present and the deadlines (R50 to R52, R61, R62, R64) -/

/-- THREAD_RESULT's detail codes (12.6). -/
def threadOk : Nat := 0
def threadNoReel : Nat := 1
def threadAborted : Nat := 2

/-- The threading timer starts (R50, R66). -/
def Device.startThreading (d : Device) : Device :=
  { d with tc.state := .threading, tc.threadingDue := some (d.now + 1000 * d.tc.settings.threadingTime) }

/-- The film-present line rises. A line that is already high cannot rise: no effect, DESIGN CHOICE (log 6). -/
def Device.filmRises (d : Device) : Device :=
  if d.tc.filmPresent then d
  else
    let d : Device := { d with tc.filmPresent := true }
    match d.tc.state with
    | .empty =>
      match d.loadedReel with
      | some _ => d.startThreading
      | none => d.post .threadResult 0 threadNoReel
    | .threading | .stopped | .winding | .running | .limiting | .relaxing | .fault => d

/-- The film-present line falls (R52). A line that is already low cannot fall: no effect, DESIGN CHOICE (log 6). -/
def Device.filmFalls (d : Device) : Device :=
  if d.tc.filmPresent then
    let d : Device := { d with tc.filmPresent := false }
    match d.tc.state with
    | .empty => d
    | .threading =>
      ({ d with tc.state := .empty, tc.threadingDue := none } : Device).post .threadResult d.loadedId threadAborted
    | .stopped => { d with tc.state := .empty }
    | .fault => { d with tc.state := .empty, tc.faultCause := none }
    | .running | .winding | .limiting | .relaxing => d.enterFault .break
  else d

/-- The thread check passes: film present and both tensions from 20 to 200 cN (R51). -/
def Transport.threadCheck (t : Transport) : Bool :=
  t.filmPresent && decide (20 ≤ t.feed ∧ t.feed ≤ 200 ∧ 20 ≤ t.takeUp ∧ t.takeUp ≤ 200)

/-- The threading timer expires in THREADING (R51). -/
def Device.threadingExpires (d : Device) : Device :=
  if d.tc.state = .threading ∧ d.reached d.tc.threadingDue then
    if d.tc.threadCheck then
      ({ d with tc.state := .stopped, tc.aligned := true, tc.threadingDue := none } : Device).post
        .threadResult d.loadedId threadOk
    else d.enterFault .thread
  else d

/-- The relax timer expires in RELAXING (R61). -/
def Device.relaxExpires (d : Device) : Device :=
  if d.tc.state = .relaxing ∧ d.reached d.tc.relaxDue then
    { d with tc.relaxExpired := true, tc.relaxDue := none }
  else d

/-- The strain-warning persistence expires in LIMITING (R62). -/
def Device.strainExpires (d : Device) : Device :=
  if d.tc.state = .limiting ∧ d.reached d.tc.strainDue then
    ({ d with tc.strainLine := true, tc.strainDue := none } : Device).post .strainWarning d.loadedId d.head
  else d

/-- The slip persistence expires with the watch in TIMING: the finding first, then the fault or the notice (R64). -/
def Device.slipExpires (d : Device) : Device :=
  if d.tc.watch = .timing ∧ d.reached d.tc.slipDue then
    let d : Device := { d with tc.slipDue := none }
    let d := d.finding
      { kind := .splice, frame := d.head, severity := 5, detail := difference d.tc.feed d.tc.takeUp, origin := .transport }
    match d.tc.settings.slipAction with
    | .stop => d.enterFault .slip
    | .report => ({ d with tc.watch := .spent } : Device).post .slipSeen d.loadedId d.head
  else d

/-! ### Frame boundaries (R54 to R56) -/

/-- RUNNING begins; at the crawl LIMITING is kept and RUNNING is remembered (R54, R58). -/
def Transport.startRunning (t : Transport) : Transport :=
  let t := { t with direction := none, target := none }
  match t.state with
  | .limiting => { t with remembered := some .running }
  | .empty | .threading | .stopped | .winding | .running | .relaxing | .fault => { t with state := .running }

/-- The end of a winding leg, at the boundary where the head frame equals the target (R54). -/
def Transport.legEnd (t : Transport) (head : Nat) : Transport :=
  if t.isWinding ∧ t.target = some head then
    match t.direction with
    | some .backward =>
      let t := { t with aligned := true }
      if t.pass.map (·.first) = some head then t.startRunning
      else { t with direction := some .forward, target := t.pass.map (·.first) }
    | some .forward | none => t.startRunning
  else t

/-- TC takes a frame boundary: a leg may end, then the pass may end for END or for a pending cause (R54 to R56,
R79). `handed` is the completed frame when it was handed to CU. -/
def Device.boundary (handed : Option Nat) (d : Device) : Device :=
  let d : Device := { d with tc := d.tc.legEnd d.head }
  match d.tc.pass with
  | none => d
  | some p =>
    if handed = some p.last then d.endPass .endFrame .stopped
    else
      match d.tc.pendingEnd with
      | some cause => d.endPass cause.cause .stopped
      | none => d

/-! ### Requests -/

/-- The settings SET_TRANSPORT stores, each continuous value brought into range; a cap of 0 means none (R49). -/
def storedTransport (op : TransportOperands) (policy : RetryPolicy) (action : SlipAction) : TransportSettings :=
  { threadingTime := clampNat 1 30 op.threadingTime.toNat
    faultTime := clampNat 10 2000 op.faultTime.toNat
    retryPolicy := policy
    relaxTime := clampNat 1 600 op.relaxTime.toNat
    slipMargin := clampNat 20 400 op.slipMargin.toNat
    slipAction := action
    limitCap := if op.limitCap = 0 then none else some (clampNat 20 400 op.limitCap.toNat) }

/-- Whether a continuous value was outside its range (R49). -/
def transportClamped (op : TransportOperands) (t : TransportSettings) : Bool :=
  decide (t.threadingTime ≠ op.threadingTime.toNat ∨ t.faultTime ≠ op.faultTime.toNat
    ∨ t.relaxTime ≠ op.relaxTime.toNat ∨ t.slipMargin ≠ op.slipMargin.toNat
    ∨ t.limitCap.getD 0 ≠ op.limitCap.toNat)

/-- SET_TRANSPORT (R49). -/
def answerSetTransport (op : TransportOperands) (d : Device) : Device × Answer :=
  match RetryPolicy.ofCode op.retryPolicy.toNat, SlipAction.ofCode op.slipAction.toNat with
  | some policy, some action =>
    let t := storedTransport op policy action
    ({ d with tc.settings := t, tc.integrator := min d.tc.integrator t.top }, ⟨okOr (transportClamped op t), t.bytes⟩)
  | _, _ => refuse .badValue d

/-- STOP (R56). -/
def answerStop (d : Device) : Device × Answer :=
  match d.tc.state with
  | .empty | .threading | .fault => refuse .wrongState d
  | .stopped | .winding | .running | .limiting | .relaxing => (d.askEnd .hostStop, ⟨.ok, []⟩)

/-- RELEASE: the first case that applies (R66). -/
def answerRelease (d : Device) : Device × Answer :=
  match d.tc.state with
  | .fault =>
    let cleared : Device := { d with tc.faultCause := none }
    if d.tc.filmPresent = false then ({ cleared with tc.state := .empty }, ⟨.ok, []⟩)
    else if (d.tc.faultCause = some .strain ∨ d.tc.faultCause = some .slip) ∧ (30 ≤ d.tc.feed ∨ 30 ≤ d.tc.takeUp) then
      refuse .stillActive d
    else if d.tc.faultCause = some .thread then (cleared.startThreading, ⟨.ok, []⟩)
    else ({ cleared with tc.state := .stopped }, ⟨.ok, []⟩)
  | .empty | .threading | .stopped | .winding | .running | .limiting | .relaxing => refuse .wrongState d

/-- READ_INCIDENT (R68). -/
def answerReadIncident (d : Device) : Device × Answer :=
  (d, ⟨.ok, present 30 (d.tc.incident.map Incident.bytes) ++ u8 d.tc.incidentCount⟩)

/-- CLEAR_INCIDENT (R68). -/
def answerClearIncident (d : Device) : Device × Answer :=
  ({ d with tc.incident := none, tc.incidentCount := 0 }, ⟨.ok, []⟩)

/-- TRANSPORT_STATUS (R69). The speed demand is written as its speed (log 14), alignment by the open code (log 12), brake
and lines 1 when on, present or asserted and else 0 (log 34), the effective limit in two bytes, as the limit cap (log 35). -/
def answerTransportStatus (d : Device) : Device × Answer :=
  let t := d.tc
  (d, ⟨.ok,
    u8 t.state.code ++ u8? (t.remembered.map (·.state.code)) ++ u8? (t.faultCause.map (·.code))
      ++ present 7 (t.pass.map PassRecord.bytes) ++ u8? (t.pendingEnd.map (·.cause.code))
      ++ u8? (t.direction.map (·.code)) ++ u16? t.target ++ headBytes (d.pt.map (·.head))
      ++ u8 d.speedDemand ++ flag d.brake ++ u16 t.feed ++ u16 t.takeUp ++ u16? d.limit ++ u16 t.integrator
      ++ u16 t.settings.top ++ u8 t.retries ++ u8 t.watch.code ++ flag t.filmPresent ++ flag t.strainLine
      ++ [Config.alignmentCode t.aligned] ++ t.settings.bytes⟩)

/-- TC after Restart Suite (R70): settings, incident record and count, latest sample and the film-present line are
kept. -/
def Transport.restarted (t : Transport) : Transport :=
  { Transport.reset with
    feed := t.feed, takeUp := t.takeUp, settings := t.settings, incident := t.incident
    incidentCount := t.incidentCount, filmPresent := t.filmPresent }

end Sys2Proof.Machine
end

