-- ==== Sys2Proof/Machine/Captures.lean ====
section
/-! DEFINITION. The Capture Unit: issuing orders, gaps, frame reports and lost orders
(06_capture_orders_and_frame_reports.md). -/

namespace Sys2Proof.Machine

/-! ### Gaps (R89 to R91) -/

inductive GapReason where
  | overflow | lost | focus
  deriving DecidableEq, Repr

/-- The detail that gives a scan gap's reason (R90). -/
def GapReason.detail : GapReason → Nat
  | .overflow => 1
  | .lost => 2
  | .focus => 3

/-- A scan-gap finding (R90). -/
def gapFinding (reason : GapReason) (frame : Nat) : Finding :=
  { kind := .scanGap, frame, severity := 3, detail := reason.detail, origin := .pipeline }

/-- The consecutive-gap count rises; at 8 it becomes 0 and TC is asked to end the pass with PIPELINE (R91). -/
def Device.raiseGaps (d : Device) : Device :=
  if 8 ≤ d.cu.gaps + 1 then ({ d with cu.gaps := 0 } : Device).askEnd .pipeline
  else { d with cu.gaps := d.cu.gaps + 1 }

/-! ### Issuing (R88, R89) -/

/-- The first value from the tag counter on that no order in the list holds (R88, step 2). At most 8 are held. -/
def freeTag (orders : List Order) : Nat → Byte → Byte
  | 0, t => t
  | n + 1, t => if orders.any (fun o => decide (o.tag = t)) then freeTag orders n (t + 1) else t

/-- The order CU makes for a completed frame (R88). -/
def Device.newOrder (frame : Nat) (d : Device) : Order :=
  { tag := freeTag d.cu.orders 255 d.cu.tagCounter, pass := (d.tc.pass.map (·.number)).getD 0, frame
    shot := d.gu.shotIndex frame, grade := d.gradeAt frame, issued := d.time.clock
    deadline := d.now + d.cu.timeout }

/-- With no frame in progress, the oldest waiting order's frame is formed and begun (R92, R179, R184, R185). -/
def PipelinePort.beginNext (p : PipelinePort) : PipelinePort :=
  match p.sending, p.waiting with
  | none, o :: rest => { p with sending := some o.frameOf, waiting := rest }
  | _, _ => p

/-- An order handed to the sender waits behind those handed before it (R92, R179). -/
def PipelinePort.hand (o : Order) (p : PipelinePort) : PipelinePort :=
  ({ p with waiting := p.waiting ++ [o] } : PipelinePort).beginNext

/-- The frame in progress has been sent whole, and the next begins (R179). With none in progress nothing changes:
DESIGN CHOICE (log 28). -/
def PipelinePort.sent (p : PipelinePort) : PipelinePort :=
  match p.sending with
  | none => p
  | some _ => ({ p with sending := none } : PipelinePort).beginNext

/-- Issue an order: list, tag counter, pipeline sender, orders counter (R88, R92). -/
def Device.issue (frame : Nat) (d : Device) : Device :=
  let o := d.newOrder frame
  ({ d with
    cu.orders := d.cu.orders ++ [o], cu.tagCounter := o.tag + 1
    pipe := d.pipe.hand o } : Device).count .orders

/-- A completed frame finds the list full (R89). -/
def Device.overflowGap (frame : Nat) (d : Device) : Device :=
  ((d.finding (gapFinding .overflow frame)).count .overflowGaps).raiseGaps

/-- PT hands CU a completed frame (R88, R89). -/
def Device.handFrame (frame : Nat) (d : Device) : Device :=
  if d.cu.orders.length < 8 then d.issue frame else d.overflowGap frame

/-! ### Reports (R93 to R98) -/

/-- A frame report as it reaches CU (6.4, 12.4). -/
structure FrameReport where
  tag          : Byte
  frame        : Nat
  mean         : PerChannel Nat
  base         : PerChannel Nat
  dust         : Nat
  scratch      : Nat
  exposureClip : Bool
  focusFail    : Bool
  deriving DecidableEq, Repr

/-- The fields of a FRAME_REPORT body of 19 bytes, densities brought into range (R93, 12.4). -/
def readReport (tag : Byte) (body : List Byte) : Option FrameReport := do
  let (frame, b) ← rd16 body
  let (mean, b) ← rdTriple rd16 b
  let (base, b) ← rdTriple rd16 b
  let (dust, b) ← rd16 b
  let (scratch, b) ← rd16 b
  let (flags, b) ← rd8 b
  atEnd
    { tag, frame := frame.toNat, mean := mean.map clampDensity, base := base.map clampDensity
      dust := dust.toNat, scratch := scratch.toNat
      exposureClip := flags.getLsbD 0, focusFail := flags.getLsbD 1 } b

/-- The order a report answers: tag and frame both equal (R93). -/
def FrameReport.answers (r : FrameReport) (o : Order) : Bool :=
  decide (o.tag = r.tag) && decide (o.frame = r.frame)

/-- The severity a count gives against its limit (R95). -/
def countSeverity (count limit : Nat) : Nat := min 7 (1 + count / limit)

/-- The first effect: up to three findings (R95). -/
def Device.reportFindings (r : FrameReport) (frame : Nat) (d : Device) : Device :=
  let d :=
    if d.cu.dustLimit ≤ r.dust then
      d.finding
        { kind := .dust, frame, severity := countSeverity r.dust d.cu.dustLimit, detail := r.dust, origin := .pipeline }
    else d
  let d :=
    if d.cu.scratchLimit ≤ r.scratch then
      d.finding
        { kind := .scratch, frame, severity := countSeverity r.scratch d.cu.scratchLimit, detail := r.scratch
          origin := .pipeline }
    else d
  if r.focusFail then d.finding (gapFinding .focus frame) else d

/-- The exclusion decision (R97). -/
def Device.excluded (r : FrameReport) (frame : Nat) (d : Device) : Bool :=
  d.damaged frame || r.exposureClip || r.focusFail || d.gu.excludes frame

/-- The four effects of a matched report (R93, R95 to R98). -/
def Device.matched (r : FrameReport) (o : Order) (d : Device) : Device :=
  let d := d.reportFindings r o.frame
  let d := if r.focusFail then d else d.resolveGaps o.frame
  let d := if d.excluded r o.frame then d else d.takeStatistics r.mean r.base
  d.clipCheck o.frame r.mean o.grade

/-- A frame report reaches CU: it retires its order, or is stale (R93, R94). -/
def Device.report (r : FrameReport) (d : Device) : Device :=
  match d.cu.orders.find? r.answers with
  | some o => ({ d with cu.orders := d.cu.orders.eraseP r.answers, cu.gaps := 0 } : Device).matched r o
  | none => (d.count .staleReports).post .staleReport 0 r.frame

/-! ### Lost orders (R99) -/

/-- The report deadline of the order that holds the tag expires (R99). -/
def Device.reportExpires (tag : Byte) (d : Device) : Device :=
  match d.cu.orders.find? fun o => decide (o.tag = tag) with
  | some o =>
    if d.reached (some o.deadline) then
      let d : Device := { d with cu.orders := d.cu.orders.eraseP fun o => decide (o.tag = tag) }
      (((d.count .lostOrders).finding (gapFinding .lost o.frame)).post .captureLost d.loadedId o.frame).raiseGaps
    else d
  | none => d

/-! ### Requests -/

/-- SET_CAPTURE (R87). -/
def answerSetCapture (timeout dust scratch : BitVec 16) (d : Device) : Device × Answer :=
  let c : Capture :=
    { d.cu with
      timeout := clampNat 20 2000 timeout.toNat, dustLimit := clampNat 1 65535 dust.toNat
      scratchLimit := clampNat 1 65535 scratch.toNat }
  let clamped := decide (c.timeout ≠ timeout.toNat ∨ c.dustLimit ≠ dust.toNat ∨ c.scratchLimit ≠ scratch.toNat)
  ({ d with cu := c }, ⟨okOr clamped, c.settingsBytes⟩)

/-- CAPTURE_STATUS (R101, 12.5). -/
def answerCaptureStatus (d : Device) : Device × Answer :=
  (d, ⟨.ok, counted (Order.entryBytes d.now) d.cu.orders ++ [d.cu.tagCounter] ++ u8 d.cu.gaps ++ d.cu.settingsBytes⟩)

/-- CAPTURE_ORDER_SENT (R179). -/
def Device.orderSent (d : Device) : Device := { d with pipe := d.pipe.sent }

end Sys2Proof.Machine
end

