-- ==== Sys2Proof/Machine/Repairs.lean ====
section
/-! DEFINITION. The Repair Queue Manager: stations, taking, returning and completing work, the undo stack
(08_repair_queues_and_stations.md). -/

namespace Sys2Proof.Machine

/-- The priority that a defect's record names (present in QUEUED and ASSIGNED, R105). -/
def Device.priorityOf (d : Device) (defect : Nat) : Priority :=
  ((d.findDefect defect).bind (·.state.priority?)).getD .p0

/-- The work a station holds goes back to the front of its queue, and the station takes the given state
(R125, R128). -/
def Device.handBack (n : Nat) (e : Entry) (st : Station) (d : Device) : Device :=
  let p := d.priorityOf e.defect
  ((d.frontEntry p e).setStation n st).setDefect e.defect fun x => { x with state := .queued p }

/-- SET_STATION (R125). The id that ends the reply is absent where no defect was returned (log 13). -/
def answerSetStation (station enabled mask : Byte) (d : Device) : Device × Answer :=
  if 7 < station.toNat then refuse .badValue d
  else
    match yesNo enabled with
    | none => refuse .badValue d
    | some on =>
      if mask.getLsbD 7 then refuse .badValue d
      else
        let n := station.toNat
        let m : BitVec 7 := mask.setWidth 7
        match (d.station n).state, on with
        | .working e, false =>
          let st : Station := ⟨.offline, m⟩
          (d.handBack n e st, ⟨.ok, st.bytes ++ u16? (some e.defect)⟩)
        | .working e, true =>
          let st : Station := ⟨.working e, m⟩
          (d.setStation n st, ⟨.ok, st.bytes ++ u16? none⟩)
        | .offline, on | .idle, on =>
          let st : Station := ⟨if on then .idle else .offline, m⟩
          (d.setStation n st, ⟨.ok, st.bytes ++ u16? none⟩)

/-- The entry an IDLE station is given: P3 first, within a queue the oldest whose kind the mask allows (R126). -/
def Repair.select (q : Repair) (mask : BitVec 7) : Option (Priority × Entry) :=
  [Priority.p3, .p2, .p1, .p0].findSome? fun p =>
    ((q.queues.get p).find? fun e => mask.getLsbD e.kind.code).map fun e => (p, e)

/-- TAKE_WORK (R126). -/
def answerTakeWork (station : Byte) (d : Device) : Device × Answer :=
  if 7 < station.toNat then refuse .badValue d
  else
    let n := station.toNat
    let st := d.station n
    match st.state with
    | .offline => refuse .wrongState d
    | .working e => refuseWith .busy (u16 e.defect) d
    | .idle =>
      match d.rq.select st.mask with
      | none => refuse .nothing d
      | some (p, e) =>
        let d := ((d.dropEntry p e.defect).setStation n { st with state := .working e }).setDefect e.defect
          fun x => { x with state := .assigned p n }
        (d, ⟨.ok, recordBytes d e.defect⟩)

/-- The checks that RETURN_WORK and COMPLETE_WORK share: BAD_VALUE for the station, the id and, given here, the
outcome; TOO_LATE when the station does not hold the defect named (R127). -/
def withHeld (station : Byte) (defect : BitVec 16) (outcomeBad : Bool) (d : Device)
    (f : Nat → Station → Entry → Device × Answer) : Device × Answer :=
  if 7 < station.toNat then refuse .badValue d
  else if 1023 < defect.toNat then refuse .badValue d
  else if outcomeBad then refuse .badValue d
  else
    let n := station.toNat
    let st := d.station n
    match st.state with
    | .working e => if e.defect = defect.toNat then f n st e else refuseWith .tooLate st.holding d
    | .offline | .idle => refuseWith .tooLate st.holding d

/-- RETURN_WORK (R127, R128). -/
def answerReturnWork (station : Byte) (defect : BitVec 16) (d : Device) : Device × Answer :=
  withHeld station defect false d fun n st e =>
    let d := d.handBack n e { st with state := .idle }
    (d, ⟨.ok, recordBytes d e.defect⟩)

/-- COMPLETE_WORK with outcome REPAIRED: the entry is freed and an undo record pushed, the oldest of 16 discarded
first (R129, R132). -/
def Device.completeRepaired (n : Nat) (st : Station) (e : Entry) (d : Device) : Device :=
  let undo : UndoRecord := ⟨e.defect, n, d.priorityOf e.defect⟩
  let d := (d.setStation n { st with state := .idle }).setDefect e.defect fun x => { x with state := .repaired }
  { d with rq.undo := undo :: d.rq.undo.take 15 }

/-- COMPLETE_WORK with outcome UNREPAIRABLE (R130). -/
def Device.completeUnrepairable (n : Nat) (st : Station) (e : Entry) (d : Device) : Device :=
  (d.setStation n { st with state := .idle }).setDefect e.defect
    fun x => { x with state := .waived, detail := 65535 }

/-- COMPLETE_WORK, outcome 0 REPAIRED and 1 UNREPAIRABLE (R127, R129, R130, 12.6). -/
def answerCompleteWork (station : Byte) (defect : BitVec 16) (outcome : Byte) (d : Device) : Device × Answer :=
  withHeld station defect (decide (1 < outcome.toNat)) d fun n st e =>
    let d := if outcome = 0 then d.completeRepaired n st e else d.completeUnrepairable n st e
    (d, ⟨.ok, recordBytes d e.defect⟩)

/-- UNDO_REPAIR (R133). The undo record of the FULL and OK replies is never absent there, and no presence byte precedes
it: DEDUCED (log 33). -/
def answerUndoRepair (d : Device) : Device × Answer :=
  match d.rq.undo with
  | [] => refuse .nothing d
  | u :: rest =>
    if 192 ≤ d.rq.occupancy then refuseWith .full u.bytes d
    else
      let kind := ((d.findDefect u.defect).map (·.kind)).getD .perfDamage
      let d := { d with rq.undo := rest }
      let d := (d.frontEntry u.priority ⟨u.defect, kind⟩).setDefect u.defect
        fun x => { x with state := .queued u.priority, refused := false }
      (d, ⟨.ok, u.bytes ++ recordBytes d u.defect⟩)

/-- QUEUE_STATUS (R135). R183's count of a list of records is written before the eight station records, though they
are always eight: DEDUCED (log 30). The four queue lengths stand in the order P0 to P3 and the stations in the order of
their numbers: DESIGN CHOICE (log 32). -/
def answerQueueStatus (d : Device) : Device × Answer :=
  let q := d.rq
  (d, ⟨.ok, u8 q.queues.p0.length ++ u8 q.queues.p1.length ++ u8 q.queues.p2.length ++ u8 q.queues.p3.length
    ++ u8 q.occupancy ++ counted Station.bytes q.stations.toList ++ u8 q.undo.length
    ++ present 4 (q.undo.head?.map UndoRecord.bytes)⟩)

/-- LIST_QUEUE (R136). -/
def answerListQueue (priority start : Byte) (d : Device) : Device × Answer :=
  match Priority.ofCode priority.toNat with
  | none => refuse .badValue d
  | some p =>
    if 191 < start.toNat then refuse .badValue d
    else
      let q := d.rq.queues.get p
      (d, ⟨.ok, u8 q.length ++ counted (fun e => u16 e.defect ++ u8 e.kind.code) ((q.drop start.toNat).take 16)⟩)

/-- RQ at the end of a session: every entry freed, every WORKING station IDLE, the undo stack empty
(R10, R138, R139). -/
def Repair.emptied (q : Repair) : Repair :=
  { queues := ⟨[], [], [], []⟩
    stations := q.stations.map fun s => if s.state.isWorking then { s with state := .idle } else s
    undo := [] }

end Sys2Proof.Machine
end

