-- ==== Sys2Proof/Machine/Vaults.lean ====
section
/-! DEFINITION. The Shelf Allocator: offers, the choice of a return slot, and the vault requests
(02_shelves_zones_and_acclimatization.md). -/

namespace Sys2Proof.Machine

/-! ### Offers and misplacement (R27, R32) -/

/-- A held reel takes a slot: it leaves the queue, the slot is RESERVED, the reel RETURNING (R32). -/
def Device.giveSlot (id slot : Nat) (d : Device) : Device :=
  ((({ d with vault.hold := d.vault.hold.erase id } : Device).setSlot slot (.reserved id)).setReel id
    fun r => { r with state := .returning slot }).post .slotOffered id slot

/-- The oldest held reel that may use a slot (R32). -/
def Device.taker (d : Device) (slot : Nat) : Option Nat :=
  d.vault.hold.find? fun id =>
    match d.findReel id with
    | some r => d.usable r slot
    | none => false

/-- An offer of a freed slot (R32). -/
def Device.offer (slot : Nat) (d : Device) : Device :=
  match d.taker slot with
  | some id => d.giveSlot id slot
  | none => d

/-- Free a slot; the owner's slot field goes with the state its rule gives it in the same step (R23). -/
def Device.freeSlot (slot : Nat) (d : Device) : Device := d.setSlot slot .free

/-- A reel that holds a slot outside its class's mask is noticed (R27; R3, R14, R28). -/
def Device.noticeMisplaced (id : Nat) (d : Device) : Device :=
  match d.findReel id with
  | some r =>
    match r.state.slot? with
    | some slot => if d.allowed r.cls (zoneOf slot) then d else d.post .misplaced r.id slot
    | none => d
  | none => d

/-! ### Allocation at unload (R29) -/

/-- The lowest-numbered FREE slot of a zone. -/
def Device.lowestFree (d : Device) (z : Zone) : Option Nat :=
  (List.range 256).find? fun n => decide (zoneOf n = z) && decide (d.slot n = .free)

/-- WORKROOM for a reel with deferred work, then an allowed home zone, then the other allowed zones in ascending
number (R29). -/
def Device.returnSlot (d : Device) (r : Reel) : Option Nat :=
  let zones :=
    (if 0 < r.deferred then [Zone.workroom] else []) ++ (if d.allowed r.cls r.home then [r.home] else [])
      ++ Zone.all.filter fun z => decide (z ≠ r.home) && d.allowed r.cls z
  zones.findSome? d.lowestFree

/-! ### Requests -/

/-- The slot a request names; above 255 is BAD_VALUE before any other check (R21). -/
def withSlot (slot : BitVec 16) (d : Device) (f : Nat → SlotState → Device × Answer) : Device × Answer :=
  if 255 < slot.toNat then refuse .badValue d else f slot.toNat (d.slot slot.toNat)

/-- The zone a request names; above 3 is BAD_VALUE before any other check (R21). -/
def withZone (zone : Byte) (d : Device) (f : Zone → Device × Answer) : Device × Answer :=
  match Zone.ofCode zone.toNat with
  | some z => f z
  | none => refuse .badValue d

/-- CLOSE_SLOT (R24). -/
def answerCloseSlot (slot : BitVec 16) (d : Device) : Device × Answer :=
  withSlot slot d fun n st =>
    if st = .free then (d.setSlot n .closed, ⟨.ok, []⟩) else refuseWith .wrongState (u8 st.code) d

/-- OPEN_SLOT (R25). -/
def answerOpenSlot (slot : BitVec 16) (d : Device) : Device × Answer :=
  withSlot slot d fun n st =>
    if st = .closed then ((d.freeSlot n).offer n, ⟨.ok, []⟩) else refuseWith .wrongState (u8 st.code) d

/-- SET_ZONE_TIME (R26). -/
def answerSetZoneTime (zone : Byte) (minutes : BitVec 16) (d : Device) : Device × Answer :=
  withZone zone d fun z =>
    let t := min 4320 minutes.toNat
    ({ d with vault.zoneMinutes := d.vault.zoneMinutes.set z t }, ⟨okOr (decide (4320 < minutes.toNat)), u16 t⟩)

/-- One slot of the sweep: a FREE one is offered (R28, step 3). -/
def Device.offerIfFree (d : Device) (slot : Nat) : Device := if d.slot slot = .free then d.offer slot else d

/-- SET_ZONE_POLICY (R28). The reply's mask is one byte, as the request's (log 13). -/
def answerSetZonePolicy (cls mask : Byte) (d : Device) : Device × Answer :=
  match DecayClass.ofCode cls.toNat with
  | none => refuse .badValue d
  | some c =>
    if 16 ≤ mask.toNat then refuse .badValue d
    else
      let d : Device := { d with vault.masks := d.vault.masks.set c (mask.setWidth 4) }
      let ids := (d.reels.filter fun r => decide (r.cls = c)).map (·.id)
      let d := ids.foldl (fun d id => d.noticeMisplaced id) d
      ((List.range 256).foldl Device.offerIfFree d, ⟨.ok, [mask]⟩)

def SlotState.owner? : SlotState → Option Nat
  | .reserved id | .occupied id => some id
  | .free | .closed => none

/-- SLOT_STATUS (R34): an absent reel id is 0 and an absent state 255 (R183). -/
def answerSlotStatus (slot : BitVec 16) (d : Device) : Device × Answer :=
  withSlot slot d fun n st =>
    let owner := st.owner?.bind d.findReel
    (d, ⟨.ok, u8 (zoneOf n).code ++ u8 st.code ++ u32 (st.owner?.getD 0) ++ u8? (owner.map (·.state.code))⟩)

/-- LIST_HOLD (R35). -/
def answerListHold (start : Byte) (d : Device) : Device × Answer :=
  let q := d.vault.hold
  (d, ⟨.ok, u16 q.length ++ counted u32 ((q.drop start.toNat).take 16)⟩)

/-- The number of a zone's slots in the state of a code. -/
def Device.slotCount (d : Device) (z : Zone) (code : Nat) : Nat :=
  (List.range 256).countP fun n => decide (zoneOf n = z) && (d.slot n).code == code

/-- The classes whose masks include a zone, as a set (R36, R183). -/
def Device.classesOf (d : Device) (z : Zone) : Nat :=
  (DecayClass.all.map fun c => if d.allowed c z then 2 ^ c.code else 0).sum

/-- ZONE_STATUS (R36). The four counts stand in the order of the state codes, FREE, RESERVED, OCCUPIED, CLOSED, and
the set of classes takes one byte, bit n for the class of code n: DESIGN CHOICE (log 31), the manual gives neither. -/
def answerZoneStatus (zone : Byte) (d : Device) : Device × Answer :=
  withZone zone d fun z =>
    (d, ⟨.ok, u16 (d.vault.zoneMinutes.get z) ++ (List.range 4).flatMap (fun code => u8 (d.slotCount z code))
      ++ u8 (d.classesOf z)⟩)

end Sys2Proof.Machine
end

