-- ==== Sys2Proof/Machine/Catalogues.lean ====
section
/-! DEFINITION. The Reel Catalogue: enrolment, fetching, loading, unloading, return, condition and allowance
(01_reel_catalogue.md). -/

namespace Sys2Proof.Machine

/-! ### Values by class (1.1) -/

def defaultPasses : DecayClass → Nat
  | .a => 15
  | .b => 10
  | .c => 6
  | .d => 3

/-- The state of a reel that comes into the suite from a zone: READY at once, or ACCLIMATIZING (R3, R6). -/
def Device.arrival (d : Device) (z : Zone) : ReelState :=
  let minutes := d.vault.zoneMinutes.get z
  if minutes = 0 then .ready else .acclimatizing (d.now + 60000 * minutes)

/-! ### Enrolment and withdrawal (R2 to R4) -/

/-- Where a reel is enrolled (1.3). -/
inductive Location where
  | slot (n : Nat)
  | suite (z : Zone)
  deriving DecidableEq, Repr

def readLocation (l : LocationOperand) : Option Location :=
  if l.kind = 0 then (if l.value.toNat ≤ 255 then some (.slot l.value.toNat) else none)
  else if l.kind = 1 then (Zone.ofCode l.value.toNat).map .suite
  else none

/-- Passes remaining as given: 0 to 15, or 255 for the class default (R2, R3). -/
def readPasses (cls : DecayClass) (b : Byte) : Option Nat :=
  if b.toNat ≤ 15 then some b.toNat else if b = 255 then some (defaultPasses cls) else none

/-- The record ENROL_REEL gives, its state still to be set, with the location; none when a field is out of range
(R2, step 1; R3). -/
def readEnrol (op : EnrolOperands) : Option (Reel × Location) := do
  let gauge ← Gauge.ofCode op.gauge.toNat
  let cls ← DecayClass.ofCode op.cls.toNat
  let permit ← yesNo op.permit
  let passes ← readPasses cls op.passes
  let home ← Zone.ofCode op.home.toNat
  let location ← readLocation op.location
  if op.reelId = 0 ∨ op.length = 0 ∨ 999 < op.shrinkage.toNat then none
  else
    some
      ({ id := op.reelId.toNat, gauge, length := op.length.toNat, label := op.label, cls, permit
         shrinkage := op.shrinkage.toNat, passes, passTotal := 0, fadeRef := op.fade.map clampDensity, home
         state := .ready, deferred := 0, graded := false, sessionLost := false }, location)

/-- ENROL_REEL (R2, R3). -/
def answerEnrolReel (op : EnrolOperands) (d : Device) : Device × Answer :=
  match readEnrol op with
  | none => refuse .badValue d
  | some (reel, location) =>
    if (d.findReel reel.id).isSome then refuse .badValue d
    else if 256 ≤ d.reels.length then refuse .full d
    else
      let status := okOr (densityClamped op.fade)
      match location with
      | .slot n =>
        if d.slot n ≠ .free then refuse .wrongState d
        else
          let reel := { reel with state := .shelved n }
          let d := (({ d with reels := d.reels ++ [reel] } : Device).setSlot n (.occupied reel.id)).noticeMisplaced reel.id
          (d, ⟨status, reel.bytes d.now⟩)
      | .suite z =>
        let reel := { reel with state := d.arrival z }
        ({ d with reels := d.reels ++ [reel] }, ⟨status, reel.bytes d.now⟩)

def Device.deleteReel (id : Nat) (d : Device) : Device :=
  { d with reels := d.reels.filter fun r => decide (r.id ≠ id) }

/-- WITHDRAW_REEL (R4). -/
def answerWithdrawReel (id : BitVec 32) (d : Device) : Device × Answer :=
  withReel id d fun r =>
    match r.state with
    | .shelved n => (((d.deleteReel r.id).freeSlot n).offer n, ⟨.ok, []⟩)
    | .acclimatizing _ | .ready => (d.deleteReel r.id, ⟨.ok, []⟩)
    | .hold => ({ d.deleteReel r.id with vault.hold := d.vault.hold.erase r.id }, ⟨.ok, []⟩)
    | .outbound _ | .returning _ | .loaded => refuse .wrongState d

/-! ### Fetching (R5 to R7) -/

/-- REQUEST_REEL (R5). -/
def answerRequestReel (id : BitVec 32) (d : Device) : Device × Answer :=
  withReel id d fun r =>
    match r.state with
    | .shelved n => (d.setReel r.id fun r => { r with state := .outbound n }, ⟨.ok, []⟩)
    | .outbound _ | .acclimatizing _ | .ready | .loaded | .hold | .returning _ => refuse .wrongState d

/-- REEL_ARRIVED (R6): the reply carries the new state and the deadline, absent where the reel is READY (log 13). -/
def answerReelArrived (id : BitVec 32) (d : Device) : Device × Answer :=
  withReel id d fun r =>
    match r.state with
    | .outbound n =>
      let state := d.arrival (zoneOf n)
      (((d.freeSlot n).setReel r.id fun r => { r with state := state }).offer n,
        ⟨.ok, u8 state.code ++ counterBytes state.deadline?⟩)
    | .shelved _ | .acclimatizing _ | .ready | .loaded | .hold | .returning _ => refuse .wrongState d

/-- The acclimatization deadline of a reel expires (R7). -/
def Device.acclimatized (id : Nat) (d : Device) : Device :=
  match d.findReel id with
  | some r =>
    if d.reached r.state.deadline? then (d.setReel r.id fun r => { r with state := .ready }).post .reelReady r.id 0
    else d
  | none => d

/-! ### Loading (R8) -/

/-- P16 at load: trunc(16N (10,000 - S) / 10,000) (R71). -/
def startPitch (g : Gauge) (shrinkage : Nat) : Nat := 16 * g.nominal * (10000 - shrinkage) / 10000

/-- PT at load (R8, R71). -/
def Tracker.atLoad (r : Reel) (head : Nat) : Tracker :=
  { gauge := r.gauge, length := r.length, last := none, p16 := startPitch r.gauge r.shrinkage, count := 0, head
    markA := none, markB := none, latest := 0, peak := r.shrinkage }

/-- The session of a reel is set up (R8). -/
def Device.startSession (r : Reel) (head : Nat) (d : Device) : Device :=
  { d.setReel r.id fun r => { r with state := .loaded, sessionLost := false } with
    dm.records := [], gu := d.gu.loaded r.label, pt := some (Tracker.atLoad r head)
    rq.queues := ⟨[], [], [], []⟩, rq.undo := [], tc.settings.limitCap := none }

/-- LOAD_REEL; the head frame is 0 when not given (R8, 11.7). -/
def answerLoadReel (id : BitVec 32) (head : Option (BitVec 16)) (d : Device) : Device × Answer :=
  withReel id d fun r =>
    let h := (head.getD 0).toNat
    if r.length ≤ h then refuse .badValue d
    else if r.state ≠ .ready ∨ d.loadedReel.isSome then refuse .wrongState d
    else
      let d := d.startSession r h
      (d, ⟨.ok, ((d.findReel r.id).map (Reel.bytes d.now)).getD []⟩)

/-! ### Unloading (R9 to R11) -/

/-- The four open-work counts (R9). -/
def Device.openCounts (d : Device) : Nat × Nat × Nat × Nat :=
  (d.dm.records.countP (·.state.isQueued), d.dm.records.countP (·.state.isAssigned),
    d.dm.records.countP (·.openGap), d.gu.unlocked)

/-- A forced unload closes the open work: deferral with the pool freed, then the locks (R10). -/
def Device.closeOpenWork (d : Device) : Device := ({ d.deferOpenWork with rq := d.rq.emptied } : Device).lockAll

/-- The session state of DM, GU, RQ and PT is emptied (R11, step 4; R20). -/
def Device.emptySession (d : Device) : Device :=
  { d with dm.records := [], gu := d.gu.emptied, rq := d.rq.emptied, pt := none }

/-- CU discards its orders (R11, step 2; R102). -/
def Device.discardOrders (d : Device) : Device := { d with cu.orders := [], cu.gaps := 0 }

/-- The reel goes to the slot SA chooses, or to the hold queue (R11, step 3; R30). -/
def Device.sendBack (r : Reel) (d : Device) : Device :=
  match d.returnSlot r with
  | some n => (d.setSlot n (.reserved r.id)).setReel r.id fun r => { r with state := .returning n }
  | none =>
    ({ d.setReel r.id fun r => { r with state := .hold } with vault.hold := d.vault.hold ++ [r.id] } : Device).post
      .reelHeld r.id 0

/-- The end of a session (R11). -/
def Device.endSession (id : Nat) (graded : Bool) (deferred : Nat) (d : Device) : Device :=
  let d := (d.setReel id fun r => { r with graded := graded, deferred := deferred }).discardOrders
  match d.findReel id with
  | some r => (d.sendBack r).emptySession
  | none => d.emptySession

/-- What an accepted unload's reply carries: new state, slot, deferred and graded results (R11); the
slot is absent where none was reserved (log 13). -/
def unloadBytes (d : Device) (id : Nat) : List Byte :=
  match d.findReel id with
  | some r => u8 r.state.code ++ u16? r.state.slot? ++ u16 r.deferred ++ flag r.graded
  | none => []

/-- UNLOAD_REEL (R9 to R11). -/
def answerUnloadReel (force : Byte) (d : Device) : Device × Answer :=
  match yesNo force with
  | none => refuse .badValue d
  | some forced =>
    match d.loadedReel with
    | none => refuse .wrongState d
    | some r =>
      if d.tc.state ≠ .empty then refuse .wrongState d
      else if forced then
        let graded := decide (d.gu.unlocked = 0)
        let deferred := d.dm.records.countP (·.openWork)
        let d := d.closeOpenWork.endSession r.id graded deferred
        (d, ⟨.ok, unloadBytes d r.id⟩)
      else
        let (q, a, g, s) := d.openCounts
        if 0 < q + a + g + s then refuseWith .openWork (u16 q ++ u16 a ++ u16 g ++ u16 s) d
        else
          let d := d.endSession r.id true 0
          (d, ⟨.ok, unloadBytes d r.id⟩)

/-! ### Return to the vault (R12, R13) -/

/-- REEL_PLACED (R12): the reel is checked first (R1), then the slot number (log 24). -/
def answerReelPlaced (id : BitVec 32) (slot : BitVec 16) (d : Device) : Device × Answer :=
  withReel id d fun r =>
    withSlot slot d fun n st =>
      match r.state with
      | .returning old =>
        let shelve (d : Device) : Device :=
          (d.setSlot n (.occupied r.id)).setReel r.id fun r => { r with state := .shelved n }
        if n = old then (shelve d, ⟨.ok, []⟩)
        else if st = .free ∧ d.usable r n then (((shelve d).freeSlot old).offer old, ⟨.ok, []⟩)
        else refuse .badValue d
      | .shelved _ | .outbound _ | .acclimatizing _ | .ready | .loaded | .hold => refuse .wrongState d

/-- RECALL_REEL (R13). -/
def answerRecallReel (id : BitVec 32) (d : Device) : Device × Answer :=
  withReel id d fun r =>
    let ready (d : Device) : Device := d.setReel r.id fun r => { r with state := .ready }
    match r.state with
    | .returning n => ((ready (d.freeSlot n)).offer n, ⟨.ok, []⟩)
    | .hold => (ready { d with vault.hold := d.vault.hold.erase r.id }, ⟨.ok, []⟩)
    | .shelved _ | .outbound _ | .acclimatizing _ | .ready | .loaded => refuse .wrongState d

/-! ### Condition and allowance (R14 to R18) -/

/-- SET_CONDITION (R14). -/
def answerSetCondition (op : ConditionOperands) (d : Device) : Device × Answer :=
  withReel op.reelId d fun r =>
    match yesNo op.permit, DecayClass.ofCode op.cls.toNat with
    | some permit, some cls =>
      let fade := op.fade.map clampDensity
      let d := (d.setReel r.id fun r => { r with cls := cls, permit := permit, fadeRef := fade }).noticeMisplaced r.id
      (d, ⟨okOr (densityClamped op.fade), ((d.findReel r.id).map (Reel.bytes d.now)).getD []⟩)
    | _, _ => refuse .badValue d

/-- GRANT_PASSES (R15). -/
def answerGrantPasses (id : BitVec 32) (n : Byte) (d : Device) : Device × Answer :=
  withReel id d fun r =>
    let sum := r.passes + n.toNat
    (d.setReel r.id fun r => { r with passes := min 15 sum }, ⟨okOr (decide (15 < sum)), u8 (min 15 sum)⟩)

/-- Whether the pass-start check lets a pass begin (R17). -/
def Reel.mayPass (r : Reel) : Bool := decide (1 ≤ r.passes) && (decide (r.cls ≠ .d) || r.permit)

/-- A pass begins: one pass spent, the total raised (R17). -/
def Reel.spendPass (r : Reel) : Reel := { r with passes := r.passes - 1, passTotal := bump16 r.passTotal }

/-- The escalation class of a recorded shrinkage (R18). -/
def escalationClass (shrinkage : Nat) : Option DecayClass :=
  if shrinkage ≤ 149 then none else if shrinkage ≤ 249 then some .c else some .d

/-- Measured escalation by a new peak of the LOADED reel (R18). -/
def Device.escalate (s : Nat) (d : Device) : Device :=
  match d.loadedReel with
  | none => d
  | some r =>
    let shrinkage := max r.shrinkage s
    let d := d.setReel r.id fun r => { r with shrinkage := shrinkage }
    match escalationClass shrinkage with
    | none => d
    | some cls =>
      if cls.code ≤ r.cls.code then d
      else
        let d := (d.setReel r.id fun r => { r with cls := cls, passes := min r.passes (defaultPasses cls) }).post
          .conditionRaised r.id cls.code
        if cls = .d ∧ r.permit = false then d.askEnd .condition else d

/-! ### Reading the catalogue (R19) -/

/-- REEL_STATUS (R19). -/
def answerReelStatus (id : BitVec 32) (d : Device) : Device × Answer :=
  withReel id d fun r => (d, ⟨.ok, r.bytes d.now⟩)

/-- LIST_REELS (R19). -/
def answerListReels (start : BitVec 32) (d : Device) : Device × Answer :=
  let from_ := if start = 0 then d.reels else d.reels.dropWhile fun r => decide (r.id ≠ start.toNat)
  if start ≠ 0 ∧ from_ = [] then refuse .notFound d
  else (d, ⟨.ok, counted (Reel.bytes d.now) (from_.take 8) ++ u32 ((from_[8]?.map (·.id)).getD 0)⟩)

/-- RC at Restart Suite: a LOADED reel enters READY with session lost (R20). -/
def Reel.restarted (r : Reel) : Reel :=
  if r.state = .loaded then { r with state := .ready, sessionLost := true } else r

end Sys2Proof.Machine
end

