-- ==== Sys2Proof/Machine/Trackers.lean ====
section
/-! DEFINITION. The Perforation Tracker: edges, pitch and shrinkage, frame completion, marks; and with them the start
of a pass (05_perforation_tracking_and_shrinkage.md; R53 and R54 of 04_transport_control.md). -/

namespace Sys2Proof.Machine

/-- Change the tracker where one is held. -/
def Device.setTracker (f : Tracker → Tracker) (d : Device) : Device := { d with pt := d.pt.map f }

/-! ### Pitch (R71, R74, R75) -/

/-- E, the expected pitch (R71). -/
def Tracker.pitch (t : Tracker) : Nat := t.p16 / 16

/-- 16 N (R71). -/
def Gauge.nominal16 (g : Gauge) : Nat := 16 * g.nominal

def Gauge.pitchMin (g : Gauge) : Nat := g.nominal16 * 9001 / 10000
def Gauge.pitchMax (g : Gauge) : Nat := g.nominal16 * 11000 / 10000

/-- P16 after a passed pitch test at distance s (R74). -/
def Tracker.refined (t : Tracker) (s : Nat) : Nat :=
  (clampInt t.gauge.pitchMin t.gauge.pitchMax (t.p16 + (16 * (s : Int) - t.p16).tdiv 16)).toNat

/-- The shrinkage that a smoothed pitch gives (R75). -/
def Gauge.shrinkageAt (g : Gauge) (p16 : Nat) : Nat :=
  (clampInt 0 999 ((((g.nominal16 : Int) - p16) * 10000).tdiv g.nominal16)).toNat

/-! ### Classes of edge (R73) -/

inductive EdgeClass where
  | bounce | spurious | good | gap
  deriving DecidableEq, Repr

/-- The first row of R73 that applies to a distance. -/
def edgeClass (pitch : Nat) (s : Int) : EdgeClass :=
  if s ≤ 0 ∨ 4 * s < pitch then .bounce
  else if 4 * s < 3 * pitch then .spurious
  else if 4 * s ≤ 5 * pitch then .good
  else .gap

/-- The distance of an edge from the last counted perforation (R73). -/
def distance (position last : BitVec 32) : Int := (position - last).toInt

/-- m, the missing perforations of a gap edge (R77). -/
def missing (pitch s : Nat) : Nat := (2 * s + pitch) / (2 * pitch) - 1

/-! ### Frame completion (R79) -/

/-- One perforation counted in forward motion (R79). -/
def Device.countForward (d : Device) : Device :=
  match d.pt with
  | none => d
  | some t =>
    if t.count + 1 < t.gauge.perFrame then d.setTracker fun t => { t with count := t.count + 1 }
    else if t.head < t.length then
      let d := d.setTracker fun t => { t with count := 0, head := t.head + 1 }
      if d.capturing then (d.handFrame t.head).boundary (some t.head) else d.boundary none
    else d.setTracker fun t => { t with count := 0 }

/-- The perforations of one edge, one after another (R79). -/
def Device.countMany : Nat → Device → Device
  | 0, d => d
  | n + 1, d => Device.countMany n d.countForward

/-- One edge counted in backward motion (R80). -/
def Device.countBackward (d : Device) : Device :=
  match d.pt with
  | none => d
  | some t =>
    if t.count + 1 < t.gauge.perFrame then d.setTracker fun t => { t with count := t.count + 1 }
    else if t.head = 0 then d.setTracker fun t => { t with count := 0 }
    else (d.setTracker fun t => { t with count := 0, head := t.head - 1 }).boundary none

/-! ### Forward edges (R73 to R78) -/

/-- PT stores a computed shrinkage and reports a new peak to RC (R75, R76). -/
def Device.measured (s : Nat) (d : Device) : Device :=
  match d.pt with
  | none => d
  | some t =>
    if t.peak < s then (d.setTracker fun t => { t with latest := s, peak := s }).escalate s
    else d.setTracker fun t => { t with latest := s }

/-- A good edge: the pitch and the shrinkage, then the count (R74 to R76). -/
def Device.goodEdge (t : Tracker) (position : BitVec 32) (s : Nat) (d : Device) : Device :=
  let d := d.setTracker fun t => { t with last := some position }
  let d :=
    if 15 * t.pitch ≤ 16 * s ∧ 16 * s ≤ 17 * t.pitch then
      (d.setTracker fun t => { t with p16 := t.refined s }).measured (t.gauge.shrinkageAt (t.refined s))
    else d
  d.countForward

/-- The finding of a gap edge that misses m perforations (R77, step 1). -/
def missingFinding (m head : Nat) : Finding :=
  { kind := .perfMissing, frame := head, severity := if 5 ≤ m then 7 else 2 + m, detail := min m 65535, origin := .tracker }

/-- A gap edge (R77, R78). -/
def Device.gapEdge (t : Tracker) (position : BitVec 32) (s : Nat) (d : Device) : Device :=
  let m := missing t.pitch s
  let d := if 1 ≤ m then d.finding (missingFinding m t.head) else d
  let d := if 8 < m then d.enterFault .track else d
  (d.setTracker fun t => { t with last := some position }).countMany (m + 1)

/-- The finding of a spurious edge (R73). -/
def spuriousFinding (head : Nat) : Finding :=
  { kind := .perfDamage, frame := head, severity := 2, detail := 0, origin := .tracker }

/-- A forward edge (R73). -/
def Device.forwardEdge (t : Tracker) (position : BitVec 32) (d : Device) : Device :=
  match t.last with
  | none => (d.setTracker fun t => { t with last := some position }).countForward
  | some last =>
    let s := distance position last
    match edgeClass t.pitch s with
    | .bounce => d
    | .spurious => d.finding (spuriousFinding t.head)
    | .good => d.goodEdge t position s.toNat
    | .gap => d.gapEdge t position s.toNat

/-! ### Edges (R72) -/

inductive Motion where
  | still | forward | backward
  deriving DecidableEq, Repr

def Transport.legMotion (t : Transport) : Motion :=
  match t.direction with
  | some .backward => .backward
  | some .forward | none => .forward

/-- How PT treats an edge (R72's table). -/
def Transport.motion (t : Transport) : Motion :=
  match t.state with
  | .running => .forward
  | .winding => t.legMotion
  | .limiting =>
    match t.remembered with
    | some .winding => t.legMotion
    | some .running | none => .forward
  | .empty | .threading | .stopped | .relaxing | .fault => .still

/-- A perforation edge with the capstan position latched at it (R72; log 8). -/
def Device.edge (position : BitVec 32) (d : Device) : Device :=
  match d.pt with
  | none => d
  | some t =>
    match d.tc.motion with
    | .still => d
    | .forward => ({ d with capstan := position } : Device).forwardEdge t position
    | .backward => ({ d with capstan := position } : Device).countBackward

/-! ### The start of a pass (R53, R54) -/

/-- A backward leg begins: PT's last position becomes unset and its count 0 (R54, R72). -/
def Device.startBackward (target : Nat) (d : Device) : Device :=
  ({ d with tc.state := .winding, tc.direction := some .backward, tc.target := some target } : Device).setTracker
    fun t => { t with last := none, count := 0 }

/-- TC brings the start frame to the gate (R54). -/
def Device.startLeg (first : Nat) (d : Device) : Device :=
  if d.tc.aligned then
    if d.head = first then { d with tc.state := .running, tc.direction := none, tc.target := none }
    else if d.head < first then
      { d with tc.state := .winding, tc.direction := some .forward, tc.target := some first }
    else d.startBackward first
  else d.startBackward (min first (d.head - 1))

/-- An accepted RUN_PASS: the pass is spent, its record made, and TC starts (R16, R17, R53, R63, R72, R91). -/
def Device.startPass (r : Reel) (p : PassRecord) (d : Device) : Device :=
  let d := d.setReel r.id Reel.spendPass
  let d : Device :=
    { d with
      tc.pass := some p, tc.retries := 0, tc.pendingEnd := none, tc.watch := .armed
      capstan := 0, cu.gaps := 0 }
  (d.setTracker fun t => { t with last := none }).startLeg p.first

/-- RUN_PASS (R53). -/
def answerRunPass (first last : FrameRef) (speed : Byte) (d : Device) : Device × Answer :=
  if d.tc.state ≠ .stopped then refuse .wrongState d
  else withFrame first d fun a => withFrame last d fun b =>
    if b < a then refuse .badValue d
    else if d.tc.aligned = false ∧ d.head = 0 then refuse .wrongState d
    else
      match d.loadedReel with
      | none => refuse .wrongState d
      | some r =>
        if r.mayPass then
          let p : PassRecord :=
            { first := a, last := b, speed := clampNat 1 24 speed.toNat, number := r.spendPass.passTotal }
          (d.startPass r p, ⟨okOr (decide (p.speed ≠ speed.toNat)), p.bytes⟩)
        else refuse .condition d

/-! ### Requests of the tracker -/

/-- SET_HEAD: TC's state is checked before the reference is resolved (R82). The reply's head
frame has its presence byte, 1 (log 13). -/
def answerSetHead (ref : FrameRef) (d : Device) : Device × Answer :=
  if d.tc.state ≠ .stopped then refuse .wrongState d
  else withFrame ref d fun frame =>
    (({ d with tc.aligned := true } : Device).setTracker fun t => { t with head := frame, count := 0, last := none },
      ⟨.ok, headBytes (some frame)⟩)

/-- SET_MARK: the selector, then the reference (R83). -/
def answerSetMark (mark : Byte) (ref : FrameRef) (d : Device) : Device × Answer :=
  if 1 < mark.toNat then refuse .badValue d
  else withFrame ref d fun frame =>
    (d.setTracker fun t => if mark = 0 then { t with markA := some frame } else { t with markB := some frame },
      ⟨.ok, u16 frame⟩)

/-- TRACKER_STATUS (R84): with no reel LOADED every field is absent. Widths that R183 does not give are open (log 11).
The manual gives no layout for "the reel marked absent": the gauge's absent code 255 stands for it, DESIGN CHOICE
(log 29). -/
def answerTrackerStatus (d : Device) : Device × Answer :=
  let open_ (f : Config.UnsizedField) (g : Tracker → Nat) : List Byte := unsized f (d.pt.map g)
  (d, ⟨.ok,
    u8? (d.pt.map (·.gauge.code)) ++ open_ .nominalPitch (·.gauge.nominal)
      ++ open_ .perforationsPerFrame (·.gauge.perFrame) ++ open_ .smoothedPitch (·.p16) ++ open_ .expectedPitch (·.pitch)
      ++ present 4 ((d.pt.bind (·.last)).map be32) ++ open_ .perforationCount (·.count)
      ++ headBytes (d.pt.map (·.head)) ++ u16? (d.pt.bind (·.markA)) ++ u16? (d.pt.bind (·.markB))
      ++ u16? (d.pt.map (·.latest)) ++ u16? (d.pt.map (·.peak))⟩)

end Sys2Proof.Machine
end

