-- ==== Sys2Proof/Machine/Notices.lean ====
section
/-! DEFINITION. Requests of the Notice List, the counter set and the Host Link, and Restart Suite
(10_notices_and_counters.md; R180 and R181 of 11_host_link.md). -/

namespace Sys2Proof.Machine

/-! ### Notices (R161, R163) -/

/-- FETCH_NOTICES: up to 8 records and the overflow count leave with the reply (R161). -/
def answerFetchNotices (d : Device) : Device × Answer :=
  let l := d.nl
  ({ d with nl := { l with notices := l.notices.drop 8, overflow := 0 } },
    ⟨if l.notices = [] then .nothing else .ok, counted Notice.bytes (l.notices.take 8) ++ u8 l.overflow⟩)

/-- SET_ATTENTION_MASK (R163). The line is written 1 asserted and 0 released: DESIGN CHOICE (log 34). -/
def answerSetAttentionMask (mask : BitVec 16) (d : Device) : Device × Answer :=
  if mask.getLsbD 15 then refuse .badValue d
  else
    let d : Device := { d with nl.mask := mask.setWidth 15 }
    (d, ⟨.ok, be16 mask ++ flag d.attentionLine⟩)

/-! ### Counters (R166, R167) -/

/-- SNAPSHOT_COUNTERS (R166). -/
def answerSnapshotCounters (clear : Byte) (d : Device) : Device × Answer :=
  match yesNo clear with
  | none => refuse .badValue d
  | some yes =>
    ({ d with
      snapshot := { values := d.counters, time := some d.now }
      counters := if yes then Counters.zero else d.counters }, ⟨.ok, []⟩)

/-- READ_COUNTERS (R166). -/
def answerReadCounters (d : Device) : Device × Answer :=
  (d, ⟨.ok, d.snapshot.values.toList.flatMap u16 ++ counterBytes d.snapshot.time⟩)

/-- CLEAR_COUNTERS (R167). -/
def answerClearCounters (d : Device) : Device × Answer := ({ d with counters := Counters.zero }, ⟨.ok, []⟩)

/-! ### The link's own requests (R180, R181) -/

/-- The capacities IDENTIFY reports, in R180's order. -/
def capacities : List Nat := [256, 256, 1024, 192, 8, 16, 512, 32, 8, 32, 4, 4]

/-- IDENTIFY: part code, revision, unit address, rate code, capacities (R180, 12.5). -/
def answerIdentify (address : BitVec 3) (rate : BitVec 2) (d : Device) : Device × Answer :=
  (d, ⟨.ok, u16 340 ++ u8 Config.siliconRevision ++ u8 address.toNat ++ u8 rate.toNat ++ capacities.flatMap u16⟩)

/-- Every block's Restart Suite (R20, R37, R46, R70, R85, R102, R119, R139, R158, R164, R168, R179, R181). The capstan
count is kept: DESIGN CHOICE (log 8), no rule says what Restart Suite does to it. -/
def Device.restarted (d : Device) : Device :=
  { d with
    reels := d.reels.map Reel.restarted, tc := d.tc.restarted, pt := none
    cu := { d.cu with orders := [], tagCounter := 0, gaps := 0 }
    dm.records := [], gu := d.gu.emptied, rq := d.rq.emptied
    nl := { d.nl with notices := [], overflow := 0 }
    counters := Counters.zero, snapshot := { values := Counters.zero, time := none }
    pipe.waiting := [] }

/-- RESTART_SUITE (R181). -/
def answerRestartSuite (d : Device) : Device × Answer := (d.restarted, ⟨.ok, []⟩)

end Sys2Proof.Machine
end

