-- ==== Sys2Proof/Machine/Times.lean ====
section
/-! DEFINITION. The Time Base: the suite clock, its step and trim, and the run counter (03_time_base.md). -/

namespace Sys2Proof.Machine

/-- The greatest suite clock value, in microseconds: 4,294,967,295 s and 999,999 µs (R38). -/
def clockMax : Nat := 4294967295 * 1000000 + 999999

def SuiteTime.total (t : SuiteTime) : Nat := t.seconds * 1000000 + t.micros

def SuiteTime.ofTotal (n : Nat) : SuiteTime := ⟨n / 1000000, n % 1000000⟩

/-- One reference microsecond (R38). The remainder is in millionths of a microsecond. At its greatest value the
clock stops, and its remainder with it: DEDUCED (log 10). -/
def TimeBase.micro (t : TimeBase) : TimeBase :=
  if clockMax ≤ t.clock.total then t
  else
    let sum : Nat := ((t.remainder : Int) + 1000000 + t.trim).toNat
    { t with
      clock := SuiteTime.ofTotal (min clockMax (t.clock.total + sum / 1000000)), remainder := sum % 1000000 }

/-- The greatest run counter value (R39). -/
def runCounterMax : Nat := 2 ^ 48 - 1

/-- One reference millisecond (R39). What follows the greatest value is not stated: a free value (log 9). -/
def Device.milli (d : Device) : Device :=
  if d.time.runCounter < runCounterMax then { d with time.runCounter := d.time.runCounter + 1 }
  else
    { d with
      time.runCounter := (Config.runCounterPastEnd d.freeDraws).toNat, freeDraws := d.freeDraws + 1 }

/-- READ_CLOCK (R40). -/
def answerReadClock (d : Device) : Device × Answer :=
  (d, ⟨.ok, timeBytes d.time.clock ++ i16 d.time.trim ++ counterBytes (some d.time.runCounter)⟩)

/-- The clock a step forms, before it is placed in range (R41). -/
def SuiteTime.stepped (t : SuiteTime) (seconds : Int) (micros : Nat) : Int :=
  (t.total : Int) + seconds * 1000000 + micros

/-- ADJUST_CLOCK (R41). -/
def answerAdjustClock (seconds micros : BitVec 32) (d : Device) : Device × Answer :=
  if 1000000 ≤ micros.toNat then refuse .badValue d
  else
    let sum := d.time.clock.stepped seconds.toInt micros.toNat
    let clock := SuiteTime.ofTotal (clampInt 0 clockMax sum).toNat
    ({ d with time.clock := clock }, ⟨okOr (decide (sum < 0 ∨ (clockMax : Int) < sum)), timeBytes clock⟩)

/-- TRIM_CLOCK (R42). -/
def answerTrimClock (trim : BitVec 16) (d : Device) : Device × Answer :=
  let t := clampInt (-500) 500 trim.toInt
  ({ d with time.trim := t }, ⟨okOr (decide (t ≠ trim.toInt)), i16 t⟩)

end Sys2Proof.Machine
end

