-- ==== Sys2Proof/Machine/Links.lean ====
section
/-! DEFINITION. The Host Link and the pipeline port: receivers, parsers, the request FIFO, dispatch, the reply queue,
replies, and the pipeline's frames (11_host_link.md). -/

namespace Sys2Proof.Machine

/-! ### Dispatch (R174, R175) -/

/-- The owner of a request's kind carries it out whole (R174, 11.7). -/
def carryOut (h : HostLink) (q : Request) (d : Device) : Device × Answer :=
  match q with
  | .identify => answerIdentify h.unitAddress h.rate d
  | .restartSuite => answerRestartSuite d
  | .snapshotCounters clear => answerSnapshotCounters clear d
  | .readCounters => answerReadCounters d
  | .clearCounters => answerClearCounters d
  | .readClock => answerReadClock d
  | .adjustClock seconds micros => answerAdjustClock seconds micros d
  | .trimClock trim => answerTrimClock trim d
  | .enrolReel op => answerEnrolReel op d
  | .withdrawReel reelId => answerWithdrawReel reelId d
  | .requestReel reelId => answerRequestReel reelId d
  | .reelArrived reelId => answerReelArrived reelId d
  | .loadReel reelId head => answerLoadReel reelId head d
  | .unloadReel force => answerUnloadReel force d
  | .reelPlaced reelId slot => answerReelPlaced reelId slot d
  | .recallReel reelId => answerRecallReel reelId d
  | .setCondition op => answerSetCondition op d
  | .grantPasses reelId passes => answerGrantPasses reelId passes d
  | .reelStatus reelId => answerReelStatus reelId d
  | .listReels start => answerListReels start d
  | .closeSlot slot => answerCloseSlot slot d
  | .openSlot slot => answerOpenSlot slot d
  | .setZoneTime zone minutes => answerSetZoneTime zone minutes d
  | .setZonePolicy cls mask => answerSetZonePolicy cls mask d
  | .slotStatus slot => answerSlotStatus slot d
  | .listHold start => answerListHold start d
  | .zoneStatus zone => answerZoneStatus zone d
  | .setTransport op => answerSetTransport op d
  | .runPass first last speed => answerRunPass first last speed d
  | .stop => answerStop d
  | .release => answerRelease d
  | .readIncident => answerReadIncident d
  | .clearIncident => answerClearIncident d
  | .transportStatus => answerTransportStatus d
  | .setHead ref => answerSetHead ref d
  | .setMark mark ref => answerSetMark mark ref d
  | .trackerStatus => answerTrackerStatus d
  | .setCapture timeout dust scratch => answerSetCapture timeout dust scratch d
  | .captureStatus => answerCaptureStatus d
  | .addDefect op => answerAddDefect op d
  | .queueDefect defect priority => answerQueueDefect defect priority d
  | .waiveDefect defect => answerWaiveDefect defect d
  | .requeueDefect defect priority => answerRequeueDefect defect priority d
  | .listDefects op => answerListDefects op d
  | .defectSummary => answerDefectSummary d
  | .setDefectPolicy kind threshold => answerSetDefectPolicy kind threshold d
  | .setStation station enabled mask => answerSetStation station enabled mask d
  | .takeWork station => answerTakeWork station d
  | .returnWork station defect => answerReturnWork station defect d
  | .completeWork station defect outcome => answerCompleteWork station defect outcome d
  | .undoRepair => answerUndoRepair d
  | .queueStatus => answerQueueStatus d
  | .listQueue priority start => answerListQueue priority start d
  | .defineShot ref label => answerDefineShot ref label d
  | .deleteShot index => answerDeleteShot index d
  | .lockShot index => answerLockShot index d
  | .unlockShot index => answerUnlockShot index d
  | .listShots start => answerListShots start d
  | .setRule op => answerSetRule op d
  | .clearRule rule => answerClearRule rule d
  | .setFadeWindow exponent => answerSetFadeWindow exponent d
  | .clearExtremes => answerClearExtremes d
  | .fadeStatus => answerFadeStatus d
  | .evaluateGrade ref density => answerEvaluateGrade ref density d
  | .fetchNotices => answerFetchNotices d
  | .setAttentionMask mask => answerSetAttentionMask mask d

/-- The kinds that a broadcast may carry (R175, step 1). -/
def broadcasts (k : Kind) : Bool := decide (k = .adjustClock ∨ k = .trimClock ∨ k = .restartSuite)

/-- An addressed request's reply joins the reply queue; a broadcast request has none (R174, R175). -/
def State.reply (q : HostRequest) (a : Answer) (s : State) : State :=
  if q.broadcast then s
  else { s with link.replies := s.link.replies ++ [{ tag := q.tag, kind := q.kind, answer := a }] }

/-- Step 4 of R175: the owner's effect and its answer. -/
def State.perform (q : HostRequest) (r : Request) (s : State) : State :=
  let out := carryOut s.link r s.dev
  ({ s with dev := out.1 } : State).reply q out.2

/-- HL dispatches a taken request by the four checks (R175). -/
def State.dispatch (q : HostRequest) (s : State) : State :=
  match Kind.ofCode q.kind with
  | none => s.reply q ⟨.unknownKind, []⟩
  | some k =>
    if q.broadcast && !broadcasts k then s
    else
      match parseBody k q.body with
      | none => s.reply q ⟨.badLength, []⟩
      | some r => s.perform q r

/-! ### The request FIFO (R173, R174) -/

/-- A good request is offered to the FIFO; with 4 held it is dropped and the lost flag is set, for the next status
character to be sent to carry (R173; log 19). -/
def State.offer (q : HostRequest) (s : State) : State :=
  if s.link.fifo.length < 4 then { s with link.fifo := s.link.fifo ++ [q] }
  else
    { s with
      dev := s.dev.count .overruns, link.lost := true, link.overrunInReply := s.link.sending.isSome }

/-- HL takes at most n requests, each while the reply queue holds fewer than 4 (R174). -/
def State.serveUpTo : Nat → State → State
  | 0, s => s
  | n + 1, s =>
    match s.link.fifo with
    | [] => s
    | q :: rest =>
      if s.link.replies.length < 4 then
        State.serveUpTo n (({ s with link.fifo := rest } : State).dispatch q)
      else s

/-- HL takes requests until the FIFO is empty or the reply queue full (R174; log 2). -/
def State.serve (s : State) : State := s.serveUpTo s.link.fifo.length

/-- A good request reaches HL and is taken when R174 lets it be (log 1). -/
def State.submit (via : Envelope) (kind : Byte) (body : List Byte) (s : State) : State :=
  (s.offer { tag := via.tag, kind, body, broadcast := via.broadcast }).serve

/-- The same for a request of the catalogue. -/
def State.request (via : Envelope) (q : Request) (s : State) : State := s.submit via q.kind.code q.body

/-! ### Frames (R172, R184) -/

/-- What the data characters taken so far make of a frame. -/
inductive FrameProgress where
  | more | tooLong | mismatch
  | good (tag kind : Byte) (body : List Byte)
  deriving DecidableEq, Repr

/-- Tag, kind, length, body and the two check characters, in that order (R172, R184, R185). -/
def frameProgress (taken : List Byte) : FrameProgress :=
  match taken with
  | tag :: kind :: length :: rest =>
    if 240 < length.toNat then .tooLong
    else if rest.length < length.toNat + 2 then .more
    else
      let body := rest.take length.toNat
      if be16 (checkOf (tag :: kind :: length :: body)) = rest.drop length.toNat then .good tag kind body
      else .mismatch
  | _ => .more

/-! ### The host link's receiver and parser (R170 to R172) -/

/-- The receiver takes characters: the line is not held low by a break, and the unit is not sending (R170, R171). -/
def HostLink.listening (h : HostLink) : Bool := !h.lineLow && h.sending.isNone

/-- What an address character does to the host link's parser (R171). -/
def HostLink.addressed (h : HostLink) (value : Byte) : Parser :=
  if value = h.unitAddress.setWidth 8 then .receive false []
  else if value = 15 then .receive true []
  else .hunt

/-- The next data character of a frame in progress (R172). -/
def State.hostData (broadcast : Bool) (taken : List Byte) (s : State) : State :=
  let hunting : State := { s with link.parser := .hunt }
  match frameProgress taken with
  | .more => { s with link.parser := .receive broadcast taken }
  | .tooLong => hunting
  | .mismatch => { hunting with dev := s.dev.count .checkErrors }
  | .good tag kind body =>
    (({ hunting with dev := s.dev.count .framesAccepted } : State).offer { tag, kind, body, broadcast }).serve

/-- One good character of the host link (R171). -/
def State.hostChar (c : LineChar) (s : State) : State :=
  if s.link.listening then
    if c.mark then { s with link.parser := s.link.addressed c.value }
    else
      match s.link.parser with
      | .hunt => s
      | .receive broadcast taken => s.hostData broadcast (taken ++ [c.value])
  else s

def State.hostChars (chars : List LineChar) (s : State) : State := chars.foldl (fun s c => s.hostChar c) s

/-- A frame in progress on the host link is discarded, and a counter rises; in HUNT nothing is (R172). -/
def State.hostDiscard (k : Counter) (s : State) : State :=
  match s.link.parser with
  | .hunt => s
  | .receive _ _ => { s with link.parser := .hunt, dev := s.dev.count k }

/-- A character with a framing or noise error (R172). -/
def State.hostCharError (s : State) : State := if s.link.listening then s.hostDiscard .characterErrors else s

/-- The gap runs out; the gap timer runs only in RECEIVE (R172). -/
def State.hostGap (s : State) : State := s.hostDiscard .timeouts

/-- A break: the frame in progress is discarded as by the framing error that begins it, and no character is taken
until the line returns high (R170, R172; log 20). -/
def State.hostBreak (s : State) : State :=
  let s := s.hostCharError
  { s with link.lineLow := true }

/-! ### Replies (R176, R177) -/

/-- The unit begins the oldest reply; the line must be high (R176; log 21). Its status character carries the lost flag
as it stands now: an overrun from here on is the next reply's to carry (log 19). -/
def State.startReply (s : State) : State :=
  if s.link.listening then
    match s.link.replies with
    | [] => s
    | r :: _ =>
      { s with
        link.sending := some (replyFrame s.link.unitAddress s.link.lost r), link.overrunInReply := false }
  else s

/-- The reply leaves the queue. Read back as far as its status character, it clears the lost flag that character
carried; an overrun taken since then has set the flag again (R173; log 19). -/
def HostLink.replyEnded (statusReadBack : Bool) (h : HostLink) : HostLink :=
  { h with
    replies := h.replies.tail, sending := none, overrunInReply := false
    lost := if statusReadBack then h.overrunInReply else h.lost }

/-- The reply has been sent and read back whole (R173, R174, R176). -/
def State.completeReply (s : State) : State :=
  match s.link.sending with
  | none => s
  | some _ => ({ s with link := s.link.replyEnded true } : State).serve

/-- A collision on the character at a position of the reply in progress; the status character is at position 2
(R173, R177, R184). -/
def State.collide (position : Nat) (s : State) : State :=
  match s.link.sending with
  | none => s
  | some frame =>
    if position < frame.length then
      ({ s with
        link := { s.link.replyEnded (decide (2 < position)) with parser := .hunt }
        dev := s.dev.count .collisions } : State).serve
    else s

/-! ### The pipeline port (R178) -/

/-- The kind code of a FRAME_REPORT (11.7). -/
def frameReportKind : Byte := 161

/-- The frame in progress on the pipeline port is discarded as a bad frame; in HUNT nothing is (R178). -/
def Device.pipeDiscard (d : Device) : Device :=
  match d.pipe.parser with
  | .hunt => d
  | .receive _ _ => ({ d with pipe.parser := .hunt } : Device).count .badFrames

/-- A frame whose check agrees: a report of 19 bytes is handed to CU, any other is a bad frame (R178). -/
def Device.pipeFrame (tag kind : Byte) (body : List Byte) (d : Device) : Device :=
  match if kind = frameReportKind then readReport tag body else none with
  | some r => (d.count .pipelineFramesAccepted).report r
  | none => d.count .badFrames

/-- The next data character of a frame in progress (R172, R178). -/
def Device.pipeData (taken : List Byte) (d : Device) : Device :=
  let hunting : Device := { d with pipe.parser := .hunt }
  match frameProgress taken with
  | .more => { d with pipe.parser := .receive false taken }
  | .tooLong | .mismatch => hunting.count .badFrames
  | .good tag kind body => hunting.pipeFrame tag kind body

/-- One good character of the pipeline port; address 0 is its own (R171, R178). -/
def Device.pipeChar (c : LineChar) (d : Device) : Device :=
  if d.pipe.lineLow then d
  else if c.mark then
    if c.value = 0 then { d with pipe.parser := .receive false [] } else d.pipeDiscard
  else
    match d.pipe.parser with
    | .hunt => d
    | .receive _ taken => d.pipeData (taken ++ [c.value])

def Device.pipeChars (chars : List LineChar) (d : Device) : Device := chars.foldl (fun d c => d.pipeChar c) d

/-- A character with a framing or noise error on the pipeline port (R178). -/
def Device.pipeCharError (d : Device) : Device := if d.pipe.lineLow then d else d.pipeDiscard

/-- A break on the pipeline port, counted once when it discards a frame (R170, R178). -/
def Device.pipeBreak (d : Device) : Device :=
  let d := d.pipeCharError
  { d with pipe.lineLow := true }

/-! ### Full reset (R182) -/

/-- Every block at its full-reset state; the input lines keep their levels, and the free values already drawn stay
drawn (R20, R37, R46, R70, R85, R102, R119, R139, R158, R164, R168, R182; log 7, log 9). -/
def State.fullReset (address : BitVec 3) (rate : BitVec 2) (s : State) : State :=
  { s with
    link := { HostLink.reset address rate with lineLow := s.link.lineLow }
    dev :=
      { Device.reset with
        tc.filmPresent := s.dev.tc.filmPresent, pipe.lineLow := s.dev.pipe.lineLow, freeDraws := s.dev.freeDraws } }

end Sys2Proof.Machine
end

