-- ==== Sys2Proof/Machine/Events.lean ====
section
/-! DEFINITION. The meanings of the events: ticks, inputs, deadlines, the two serial lines, and the full reset. No
event is refused; one that finds nothing to act on changes nothing. -/

namespace Sys2Proof.Machine

/-- FULL_RESET (R182). -/
def execFullReset (addressPins : BitVec 3) (ratePins : BitVec 2) (s : State) : Host.Outcome State Fault Refusal :=
  .next (s.fullReset addressPins ratePins)

/-- RUN_COUNTER_TICK (R39). It expires no deadline: an expiry is a command of its own (log 4, log 5). -/
def execRunCounterTick (s : State) : Host.Outcome State Fault Refusal :=
  .next { s with dev := s.dev.milli }

/-- SUITE_CLOCK_TICK (R38). -/
def execSuiteClockTick (s : State) : Host.Outcome State Fault Refusal :=
  .next { s with dev.time := s.dev.time.micro }

/-- TENSION_SAMPLE (R48, R58 to R63). -/
def execTensionSample (feed : BitVec 12) (takeUp : BitVec 12) (s : State) : Host.Outcome State Fault Refusal :=
  .next { s with dev := s.dev.sample feed.toNat takeUp.toNat }

/-- FILM_PRESENT_RISES (R50). -/
def execFilmPresentRises (s : State) : Host.Outcome State Fault Refusal :=
  .next { s with dev := s.dev.filmRises }

/-- FILM_PRESENT_FALLS (R52). -/
def execFilmPresentFalls (s : State) : Host.Outcome State Fault Refusal :=
  .next { s with dev := s.dev.filmFalls }

/-- PERFORATION_EDGE (R72 to R80). -/
def execPerforationEdge (position : BitVec 32) (s : State) : Host.Outcome State Fault Refusal :=
  .next { s with dev := s.dev.edge position }

/-- ACCLIMATIZATION_EXPIRY (R7, R44; log 4). -/
def execAcclimatizationExpiry (reelId : BitVec 32) (s : State) : Host.Outcome State Fault Refusal :=
  .next { s with dev := s.dev.acclimatized reelId.toNat }

/-- REPORT_DEADLINE_EXPIRY (R44, R99; log 4). -/
def execReportDeadlineExpiry (tag : Byte) (s : State) : Host.Outcome State Fault Refusal :=
  .next { s with dev := s.dev.reportExpires tag }

/-- THREADING_TIMER_EXPIRY (R44, R51; log 4). -/
def execThreadingTimerExpiry (s : State) : Host.Outcome State Fault Refusal :=
  .next { s with dev := s.dev.threadingExpires }

/-- RELAX_TIMER_EXPIRY (R44, R61; log 4). -/
def execRelaxTimerExpiry (s : State) : Host.Outcome State Fault Refusal :=
  .next { s with dev := s.dev.relaxExpires }

/-- STRAIN_WARNING_PERSISTENCE_EXPIRY (R44, R62; log 4). -/
def execStrainWarningPersistenceExpiry (s : State) : Host.Outcome State Fault Refusal :=
  .next { s with dev := s.dev.strainExpires }

/-- SLIP_PERSISTENCE_EXPIRY (R44, R63, R64; log 4). -/
def execSlipPersistenceExpiry (s : State) : Host.Outcome State Fault Refusal :=
  .next { s with dev := s.dev.slipExpires }

/-- REQUEST_FRAME: a run of good characters of the host link (R170 to R175; log 3). -/
def execRequestFrame (chars : List LineChar) (s : State) : Host.Outcome State Fault Refusal :=
  .next (s.hostChars chars)

/-- HOST_CHARACTER_ERROR (R172). -/
def execHostCharacterError (s : State) : Host.Outcome State Fault Refusal :=
  .next (s.hostCharError)

/-- HOST_GAP_TIMEOUT (R172). -/
def execHostGapTimeout (s : State) : Host.Outcome State Fault Refusal :=
  .next (s.hostGap)

/-- HOST_BREAK (R170, R172). -/
def execHostBreak (s : State) : Host.Outcome State Fault Refusal :=
  .next (s.hostBreak)

/-- FRAME_REPORT: a run of good characters of the pipeline port (R93, R178; log 3). -/
def execFrameReport (chars : List LineChar) (s : State) : Host.Outcome State Fault Refusal :=
  .next { s with dev := s.dev.pipeChars chars }

/-- PIPELINE_CHARACTER_ERROR (R178). -/
def execPipelineCharacterError (s : State) : Host.Outcome State Fault Refusal :=
  .next { s with dev := s.dev.pipeCharError }

/-- PIPELINE_GAP_TIMEOUT (R178). -/
def execPipelineGapTimeout (s : State) : Host.Outcome State Fault Refusal :=
  .next { s with dev := s.dev.pipeDiscard }

/-- PIPELINE_BREAK (R170, R178). -/
def execPipelineBreak (s : State) : Host.Outcome State Fault Refusal :=
  .next { s with dev := s.dev.pipeBreak }

/-- CAPTURE_ORDER_SENT (R179). -/
def execCaptureOrderSent (s : State) : Host.Outcome State Fault Refusal :=
  .next { s with dev := s.dev.orderSent }

/-- REPLY_START (R176, R184). -/
def execReplyStart (s : State) : Host.Outcome State Fault Refusal :=
  .next (s.startReply)

/-- REPLY_COMPLETE (R173, R174, R176; log 2, log 19). -/
def execReplyComplete (s : State) : Host.Outcome State Fault Refusal :=
  .next (s.completeReply)

/-- COLLISION (R173, R174, R177; log 2, log 19). -/
def execCollision (position : Nat) (s : State) : Host.Outcome State Fault Refusal :=
  .next (s.collide position)

/-- HOST_LINE_RETURNS_HIGH (R170). -/
def execHostLineReturnsHigh (s : State) : Host.Outcome State Fault Refusal :=
  .next { s with link.lineLow := false }

/-- PIPELINE_LINE_RETURNS_HIGH (R170, R178). -/
def execPipelineLineReturnsHigh (s : State) : Host.Outcome State Fault Refusal :=
  .next { s with dev.pipe.lineLow := false }

/-- ADDRESS_CHARACTER_OF_OTHER_VALUE: the character goes through the parser (R171). -/
def execAddressCharacterOfOtherValue (value : Byte) (s : State) : Host.Outcome State Fault Refusal :=
  .next (s.hostChar ⟨true, value⟩)

/-- PIPELINE_ADDRESS_OF_OTHER_VALUE: the character goes through the parser (R178). -/
def execPipelineAddressOfOtherValue (value : Byte) (s : State) : Host.Outcome State Fault Refusal :=
  .next { s with dev := s.dev.pipeChar ⟨true, value⟩ }

end Sys2Proof.Machine
end

