-- ==== Sys2Proof/Machine/Requests.lean ====
section
/-! DEFINITION. The meanings of the request commands: each hands HL a good request of its kind (log 1), which HL
takes by R174 and dispatches by R175 to its owner; the owner's rule stands with its `answer` definition. -/

namespace Sys2Proof.Machine

/-- UNKNOWN_REQUEST_KIND (R175). -/
def execUnknownRequestKind (via : Envelope) (kind : Byte) (body : List Byte) (s : State) : Host.Outcome State Fault Refusal :=
  .next (s.submit via kind body)

/-- IDENTIFY (R180). -/
def execIdentify (via : Envelope) (s : State) : Host.Outcome State Fault Refusal :=
  .next (s.request via .identify)

/-- RESTART_SUITE (R181). -/
def execRestartSuite (via : Envelope) (s : State) : Host.Outcome State Fault Refusal :=
  .next (s.request via .restartSuite)

/-- SNAPSHOT_COUNTERS (R166). -/
def execSnapshotCounters (via : Envelope) (clear : Byte) (s : State) : Host.Outcome State Fault Refusal :=
  .next (s.request via (.snapshotCounters clear))

/-- READ_COUNTERS (R166). -/
def execReadCounters (via : Envelope) (s : State) : Host.Outcome State Fault Refusal :=
  .next (s.request via .readCounters)

/-- CLEAR_COUNTERS (R167). -/
def execClearCounters (via : Envelope) (s : State) : Host.Outcome State Fault Refusal :=
  .next (s.request via .clearCounters)

/-- READ_CLOCK (R40). -/
def execReadClock (via : Envelope) (s : State) : Host.Outcome State Fault Refusal :=
  .next (s.request via .readClock)

/-- ADJUST_CLOCK (R41). -/
def execAdjustClock (via : Envelope) (seconds : BitVec 32) (micros : BitVec 32) (s : State) : Host.Outcome State Fault Refusal :=
  .next (s.request via (.adjustClock seconds micros))

/-- TRIM_CLOCK (R42). -/
def execTrimClock (via : Envelope) (trim : BitVec 16) (s : State) : Host.Outcome State Fault Refusal :=
  .next (s.request via (.trimClock trim))

/-- ENROL_REEL (R3). -/
def execEnrolReel (via : Envelope) (op : EnrolOperands) (s : State) : Host.Outcome State Fault Refusal :=
  .next (s.request via (.enrolReel op))

/-- WITHDRAW_REEL (R4). -/
def execWithdrawReel (via : Envelope) (reelId : BitVec 32) (s : State) : Host.Outcome State Fault Refusal :=
  .next (s.request via (.withdrawReel reelId))

/-- REQUEST_REEL (R5). -/
def execRequestReel (via : Envelope) (reelId : BitVec 32) (s : State) : Host.Outcome State Fault Refusal :=
  .next (s.request via (.requestReel reelId))

/-- REEL_ARRIVED (R6). -/
def execReelArrived (via : Envelope) (reelId : BitVec 32) (s : State) : Host.Outcome State Fault Refusal :=
  .next (s.request via (.reelArrived reelId))

/-- LOAD_REEL (R8). -/
def execLoadReel (via : Envelope) (reelId : BitVec 32) (head : Option (BitVec 16)) (s : State) : Host.Outcome State Fault Refusal :=
  .next (s.request via (.loadReel reelId head))

/-- UNLOAD_REEL (R9). -/
def execUnloadReel (via : Envelope) (force : Byte) (s : State) : Host.Outcome State Fault Refusal :=
  .next (s.request via (.unloadReel force))

/-- REEL_PLACED (R12). -/
def execReelPlaced (via : Envelope) (reelId : BitVec 32) (slot : BitVec 16) (s : State) : Host.Outcome State Fault Refusal :=
  .next (s.request via (.reelPlaced reelId slot))

/-- RECALL_REEL (R13). -/
def execRecallReel (via : Envelope) (reelId : BitVec 32) (s : State) : Host.Outcome State Fault Refusal :=
  .next (s.request via (.recallReel reelId))

/-- SET_CONDITION (R14). -/
def execSetCondition (via : Envelope) (op : ConditionOperands) (s : State) : Host.Outcome State Fault Refusal :=
  .next (s.request via (.setCondition op))

/-- GRANT_PASSES (R15). -/
def execGrantPasses (via : Envelope) (reelId : BitVec 32) (passes : Byte) (s : State) : Host.Outcome State Fault Refusal :=
  .next (s.request via (.grantPasses reelId passes))

/-- REEL_STATUS (R19). -/
def execReelStatus (via : Envelope) (reelId : BitVec 32) (s : State) : Host.Outcome State Fault Refusal :=
  .next (s.request via (.reelStatus reelId))

/-- LIST_REELS (R19). -/
def execListReels (via : Envelope) (start : BitVec 32) (s : State) : Host.Outcome State Fault Refusal :=
  .next (s.request via (.listReels start))

/-- CLOSE_SLOT (R24). -/
def execCloseSlot (via : Envelope) (slot : BitVec 16) (s : State) : Host.Outcome State Fault Refusal :=
  .next (s.request via (.closeSlot slot))

/-- OPEN_SLOT (R25). -/
def execOpenSlot (via : Envelope) (slot : BitVec 16) (s : State) : Host.Outcome State Fault Refusal :=
  .next (s.request via (.openSlot slot))

/-- SET_ZONE_TIME (R26). -/
def execSetZoneTime (via : Envelope) (zone : Byte) (minutes : BitVec 16) (s : State) : Host.Outcome State Fault Refusal :=
  .next (s.request via (.setZoneTime zone minutes))

/-- SET_ZONE_POLICY (R28). -/
def execSetZonePolicy (via : Envelope) (cls : Byte) (mask : Byte) (s : State) : Host.Outcome State Fault Refusal :=
  .next (s.request via (.setZonePolicy cls mask))

/-- SLOT_STATUS (R34). -/
def execSlotStatus (via : Envelope) (slot : BitVec 16) (s : State) : Host.Outcome State Fault Refusal :=
  .next (s.request via (.slotStatus slot))

/-- LIST_HOLD (R35). -/
def execListHold (via : Envelope) (start : Byte) (s : State) : Host.Outcome State Fault Refusal :=
  .next (s.request via (.listHold start))

/-- ZONE_STATUS (R36). -/
def execZoneStatus (via : Envelope) (zone : Byte) (s : State) : Host.Outcome State Fault Refusal :=
  .next (s.request via (.zoneStatus zone))

/-- SET_TRANSPORT (R49). -/
def execSetTransport (via : Envelope) (op : TransportOperands) (s : State) : Host.Outcome State Fault Refusal :=
  .next (s.request via (.setTransport op))

/-- RUN_PASS (R53). -/
def execRunPass (via : Envelope) (first : FrameRef) (last : FrameRef) (speed : Byte) (s : State) : Host.Outcome State Fault Refusal :=
  .next (s.request via (.runPass first last speed))

/-- STOP (R56). -/
def execStop (via : Envelope) (s : State) : Host.Outcome State Fault Refusal :=
  .next (s.request via .stop)

/-- RELEASE (R66). -/
def execRelease (via : Envelope) (s : State) : Host.Outcome State Fault Refusal :=
  .next (s.request via .release)

/-- READ_INCIDENT (R68). -/
def execReadIncident (via : Envelope) (s : State) : Host.Outcome State Fault Refusal :=
  .next (s.request via .readIncident)

/-- CLEAR_INCIDENT (R68). -/
def execClearIncident (via : Envelope) (s : State) : Host.Outcome State Fault Refusal :=
  .next (s.request via .clearIncident)

/-- TRANSPORT_STATUS (R69). -/
def execTransportStatus (via : Envelope) (s : State) : Host.Outcome State Fault Refusal :=
  .next (s.request via .transportStatus)

/-- SET_HEAD (R82). -/
def execSetHead (via : Envelope) (ref : FrameRef) (s : State) : Host.Outcome State Fault Refusal :=
  .next (s.request via (.setHead ref))

/-- SET_MARK (R83). -/
def execSetMark (via : Envelope) (mark : Byte) (ref : FrameRef) (s : State) : Host.Outcome State Fault Refusal :=
  .next (s.request via (.setMark mark ref))

/-- TRACKER_STATUS (R84). -/
def execTrackerStatus (via : Envelope) (s : State) : Host.Outcome State Fault Refusal :=
  .next (s.request via .trackerStatus)

/-- SET_CAPTURE (R87). -/
def execSetCapture (via : Envelope) (timeout : BitVec 16) (dust : BitVec 16) (scratch : BitVec 16) (s : State) : Host.Outcome State Fault Refusal :=
  .next (s.request via (.setCapture timeout dust scratch))

/-- CAPTURE_STATUS (R101). -/
def execCaptureStatus (via : Envelope) (s : State) : Host.Outcome State Fault Refusal :=
  .next (s.request via .captureStatus)

/-- ADD_DEFECT (R112). -/
def execAddDefect (via : Envelope) (op : AddDefectOperands) (s : State) : Host.Outcome State Fault Refusal :=
  .next (s.request via (.addDefect op))

/-- QUEUE_DEFECT (R113). -/
def execQueueDefect (via : Envelope) (defect : BitVec 16) (priority : Byte) (s : State) : Host.Outcome State Fault Refusal :=
  .next (s.request via (.queueDefect defect priority))

/-- WAIVE_DEFECT (R114). -/
def execWaiveDefect (via : Envelope) (defect : BitVec 16) (s : State) : Host.Outcome State Fault Refusal :=
  .next (s.request via (.waiveDefect defect))

/-- REQUEUE_DEFECT (R115). -/
def execRequeueDefect (via : Envelope) (defect : BitVec 16) (priority : Byte) (s : State) : Host.Outcome State Fault Refusal :=
  .next (s.request via (.requeueDefect defect priority))

/-- LIST_DEFECTS (R116). -/
def execListDefects (via : Envelope) (op : ListDefectsOperands) (s : State) : Host.Outcome State Fault Refusal :=
  .next (s.request via (.listDefects op))

/-- DEFECT_SUMMARY (R117). -/
def execDefectSummary (via : Envelope) (s : State) : Host.Outcome State Fault Refusal :=
  .next (s.request via .defectSummary)

/-- SET_DEFECT_POLICY (R111). -/
def execSetDefectPolicy (via : Envelope) (kind : Byte) (threshold : Byte) (s : State) : Host.Outcome State Fault Refusal :=
  .next (s.request via (.setDefectPolicy kind threshold))

/-- SET_STATION (R125). -/
def execSetStation (via : Envelope) (station : Byte) (enabled : Byte) (mask : Byte) (s : State) : Host.Outcome State Fault Refusal :=
  .next (s.request via (.setStation station enabled mask))

/-- TAKE_WORK (R126). -/
def execTakeWork (via : Envelope) (station : Byte) (s : State) : Host.Outcome State Fault Refusal :=
  .next (s.request via (.takeWork station))

/-- RETURN_WORK (R128). -/
def execReturnWork (via : Envelope) (station : Byte) (defect : BitVec 16) (s : State) : Host.Outcome State Fault Refusal :=
  .next (s.request via (.returnWork station defect))

/-- COMPLETE_WORK_REPAIRED (R129). -/
def execCompleteWorkRepaired (via : Envelope) (station : Byte) (defect : BitVec 16) (s : State) : Host.Outcome State Fault Refusal :=
  .next (s.request via (.completeWork station defect 0))

/-- COMPLETE_WORK_UNREPAIRABLE (R130). -/
def execCompleteWorkUnrepairable (via : Envelope) (station : Byte) (defect : BitVec 16) (s : State) : Host.Outcome State Fault Refusal :=
  .next (s.request via (.completeWork station defect 1))

/-- UNDO_REPAIR (R133). -/
def execUndoRepair (via : Envelope) (s : State) : Host.Outcome State Fault Refusal :=
  .next (s.request via .undoRepair)

/-- QUEUE_STATUS (R135). -/
def execQueueStatus (via : Envelope) (s : State) : Host.Outcome State Fault Refusal :=
  .next (s.request via .queueStatus)

/-- LIST_QUEUE (R136). -/
def execListQueue (via : Envelope) (priority : Byte) (start : Byte) (s : State) : Host.Outcome State Fault Refusal :=
  .next (s.request via (.listQueue priority start))

/-- DEFINE_SHOT (R141). -/
def execDefineShot (via : Envelope) (ref : FrameRef) (label : BitVec 32) (s : State) : Host.Outcome State Fault Refusal :=
  .next (s.request via (.defineShot ref label))

/-- DELETE_SHOT (R142). -/
def execDeleteShot (via : Envelope) (index : BitVec 16) (s : State) : Host.Outcome State Fault Refusal :=
  .next (s.request via (.deleteShot index))

/-- LOCK_SHOT (R143). -/
def execLockShot (via : Envelope) (index : BitVec 16) (s : State) : Host.Outcome State Fault Refusal :=
  .next (s.request via (.lockShot index))

/-- UNLOCK_SHOT (R143). -/
def execUnlockShot (via : Envelope) (index : BitVec 16) (s : State) : Host.Outcome State Fault Refusal :=
  .next (s.request via (.unlockShot index))

/-- LIST_SHOTS (R144). -/
def execListShots (via : Envelope) (start : BitVec 16) (s : State) : Host.Outcome State Fault Refusal :=
  .next (s.request via (.listShots start))

/-- SET_RULE (R145). -/
def execSetRule (via : Envelope) (op : RuleOperands) (s : State) : Host.Outcome State Fault Refusal :=
  .next (s.request via (.setRule op))

/-- CLEAR_RULE (R145). -/
def execClearRule (via : Envelope) (rule : Byte) (s : State) : Host.Outcome State Fault Refusal :=
  .next (s.request via (.clearRule rule))

/-- SET_FADE_WINDOW (R149). -/
def execSetFadeWindow (via : Envelope) (exponent : Byte) (s : State) : Host.Outcome State Fault Refusal :=
  .next (s.request via (.setFadeWindow exponent))

/-- CLEAR_EXTREMES (R149). -/
def execClearExtremes (via : Envelope) (s : State) : Host.Outcome State Fault Refusal :=
  .next (s.request via .clearExtremes)

/-- FADE_STATUS (R149). -/
def execFadeStatus (via : Envelope) (s : State) : Host.Outcome State Fault Refusal :=
  .next (s.request via .fadeStatus)

/-- EVALUATE_GRADE (R155). -/
def execEvaluateGrade (via : Envelope) (ref : FrameRef) (density : PerChannel (BitVec 16)) (s : State) : Host.Outcome State Fault Refusal :=
  .next (s.request via (.evaluateGrade ref density))

/-- FETCH_NOTICES (R161). -/
def execFetchNotices (via : Envelope) (s : State) : Host.Outcome State Fault Refusal :=
  .next (s.request via .fetchNotices)

/-- SET_ATTENTION_MASK (R163). -/
def execSetAttentionMask (via : Envelope) (mask : BitVec 16) (s : State) : Host.Outcome State Fault Refusal :=
  .next (s.request via (.setAttentionMask mask))

end Sys2Proof.Machine
end

