-- ==== Sys2Proof/Machine/Dispatch.lean ====
section
/-! DEFINITION. The meaning of every command: one arm per constructor of Instr, each one call. -/

namespace Sys2Proof.Machine

/-- A command's effect on everything but the queue of waiting commands. -/
def exec (i : Instr) (s : State) : Host.Outcome State Fault Refusal :=
  match i with
  | .fullReset addressPins ratePins => Sys2Proof.Machine.execFullReset addressPins ratePins s
  | .runCounterTick => Sys2Proof.Machine.execRunCounterTick s
  | .suiteClockTick => Sys2Proof.Machine.execSuiteClockTick s
  | .tensionSample feed takeUp => Sys2Proof.Machine.execTensionSample feed takeUp s
  | .filmPresentRises => Sys2Proof.Machine.execFilmPresentRises s
  | .filmPresentFalls => Sys2Proof.Machine.execFilmPresentFalls s
  | .perforationEdge position => Sys2Proof.Machine.execPerforationEdge position s
  | .acclimatizationExpiry reelId => Sys2Proof.Machine.execAcclimatizationExpiry reelId s
  | .reportDeadlineExpiry tag => Sys2Proof.Machine.execReportDeadlineExpiry tag s
  | .threadingTimerExpiry => Sys2Proof.Machine.execThreadingTimerExpiry s
  | .relaxTimerExpiry => Sys2Proof.Machine.execRelaxTimerExpiry s
  | .strainWarningPersistenceExpiry => Sys2Proof.Machine.execStrainWarningPersistenceExpiry s
  | .slipPersistenceExpiry => Sys2Proof.Machine.execSlipPersistenceExpiry s
  | .requestFrame chars => Sys2Proof.Machine.execRequestFrame chars s
  | .hostCharacterError => Sys2Proof.Machine.execHostCharacterError s
  | .hostGapTimeout => Sys2Proof.Machine.execHostGapTimeout s
  | .hostBreak => Sys2Proof.Machine.execHostBreak s
  | .frameReport chars => Sys2Proof.Machine.execFrameReport chars s
  | .pipelineCharacterError => Sys2Proof.Machine.execPipelineCharacterError s
  | .pipelineGapTimeout => Sys2Proof.Machine.execPipelineGapTimeout s
  | .pipelineBreak => Sys2Proof.Machine.execPipelineBreak s
  | .captureOrderSent => Sys2Proof.Machine.execCaptureOrderSent s
  | .replyStart => Sys2Proof.Machine.execReplyStart s
  | .replyComplete => Sys2Proof.Machine.execReplyComplete s
  | .collision position => Sys2Proof.Machine.execCollision position s
  | .unknownRequestKind via kind body => Sys2Proof.Machine.execUnknownRequestKind via kind body s
  | .identify via => Sys2Proof.Machine.execIdentify via s
  | .restartSuite via => Sys2Proof.Machine.execRestartSuite via s
  | .snapshotCounters via clear => Sys2Proof.Machine.execSnapshotCounters via clear s
  | .readCounters via => Sys2Proof.Machine.execReadCounters via s
  | .clearCounters via => Sys2Proof.Machine.execClearCounters via s
  | .readClock via => Sys2Proof.Machine.execReadClock via s
  | .adjustClock via seconds micros => Sys2Proof.Machine.execAdjustClock via seconds micros s
  | .trimClock via trim => Sys2Proof.Machine.execTrimClock via trim s
  | .enrolReel via op => Sys2Proof.Machine.execEnrolReel via op s
  | .withdrawReel via reelId => Sys2Proof.Machine.execWithdrawReel via reelId s
  | .requestReel via reelId => Sys2Proof.Machine.execRequestReel via reelId s
  | .reelArrived via reelId => Sys2Proof.Machine.execReelArrived via reelId s
  | .loadReel via reelId head => Sys2Proof.Machine.execLoadReel via reelId head s
  | .unloadReel via force => Sys2Proof.Machine.execUnloadReel via force s
  | .reelPlaced via reelId slot => Sys2Proof.Machine.execReelPlaced via reelId slot s
  | .recallReel via reelId => Sys2Proof.Machine.execRecallReel via reelId s
  | .setCondition via op => Sys2Proof.Machine.execSetCondition via op s
  | .grantPasses via reelId passes => Sys2Proof.Machine.execGrantPasses via reelId passes s
  | .reelStatus via reelId => Sys2Proof.Machine.execReelStatus via reelId s
  | .listReels via start => Sys2Proof.Machine.execListReels via start s
  | .closeSlot via slot => Sys2Proof.Machine.execCloseSlot via slot s
  | .openSlot via slot => Sys2Proof.Machine.execOpenSlot via slot s
  | .setZoneTime via zone minutes => Sys2Proof.Machine.execSetZoneTime via zone minutes s
  | .setZonePolicy via cls mask => Sys2Proof.Machine.execSetZonePolicy via cls mask s
  | .slotStatus via slot => Sys2Proof.Machine.execSlotStatus via slot s
  | .listHold via start => Sys2Proof.Machine.execListHold via start s
  | .zoneStatus via zone => Sys2Proof.Machine.execZoneStatus via zone s
  | .setTransport via op => Sys2Proof.Machine.execSetTransport via op s
  | .runPass via first last speed => Sys2Proof.Machine.execRunPass via first last speed s
  | .stop via => Sys2Proof.Machine.execStop via s
  | .release via => Sys2Proof.Machine.execRelease via s
  | .readIncident via => Sys2Proof.Machine.execReadIncident via s
  | .clearIncident via => Sys2Proof.Machine.execClearIncident via s
  | .transportStatus via => Sys2Proof.Machine.execTransportStatus via s
  | .setHead via ref => Sys2Proof.Machine.execSetHead via ref s
  | .setMark via mark ref => Sys2Proof.Machine.execSetMark via mark ref s
  | .trackerStatus via => Sys2Proof.Machine.execTrackerStatus via s
  | .setCapture via timeout dust scratch => Sys2Proof.Machine.execSetCapture via timeout dust scratch s
  | .captureStatus via => Sys2Proof.Machine.execCaptureStatus via s
  | .addDefect via op => Sys2Proof.Machine.execAddDefect via op s
  | .queueDefect via defect priority => Sys2Proof.Machine.execQueueDefect via defect priority s
  | .waiveDefect via defect => Sys2Proof.Machine.execWaiveDefect via defect s
  | .requeueDefect via defect priority => Sys2Proof.Machine.execRequeueDefect via defect priority s
  | .listDefects via op => Sys2Proof.Machine.execListDefects via op s
  | .defectSummary via => Sys2Proof.Machine.execDefectSummary via s
  | .setDefectPolicy via kind threshold => Sys2Proof.Machine.execSetDefectPolicy via kind threshold s
  | .setStation via station enabled mask => Sys2Proof.Machine.execSetStation via station enabled mask s
  | .takeWork via station => Sys2Proof.Machine.execTakeWork via station s
  | .returnWork via station defect => Sys2Proof.Machine.execReturnWork via station defect s
  | .completeWorkRepaired via station defect => Sys2Proof.Machine.execCompleteWorkRepaired via station defect s
  | .completeWorkUnrepairable via station defect => Sys2Proof.Machine.execCompleteWorkUnrepairable via station defect s
  | .undoRepair via => Sys2Proof.Machine.execUndoRepair via s
  | .queueStatus via => Sys2Proof.Machine.execQueueStatus via s
  | .listQueue via priority start => Sys2Proof.Machine.execListQueue via priority start s
  | .defineShot via ref label => Sys2Proof.Machine.execDefineShot via ref label s
  | .deleteShot via index => Sys2Proof.Machine.execDeleteShot via index s
  | .lockShot via index => Sys2Proof.Machine.execLockShot via index s
  | .unlockShot via index => Sys2Proof.Machine.execUnlockShot via index s
  | .listShots via start => Sys2Proof.Machine.execListShots via start s
  | .setRule via op => Sys2Proof.Machine.execSetRule via op s
  | .clearRule via rule => Sys2Proof.Machine.execClearRule via rule s
  | .setFadeWindow via exponent => Sys2Proof.Machine.execSetFadeWindow via exponent s
  | .clearExtremes via => Sys2Proof.Machine.execClearExtremes via s
  | .fadeStatus via => Sys2Proof.Machine.execFadeStatus via s
  | .evaluateGrade via ref density => Sys2Proof.Machine.execEvaluateGrade via ref density s
  | .fetchNotices via => Sys2Proof.Machine.execFetchNotices via s
  | .setAttentionMask via mask => Sys2Proof.Machine.execSetAttentionMask via mask s
  | .hostLineReturnsHigh => Sys2Proof.Machine.execHostLineReturnsHigh s
  | .pipelineLineReturnsHigh => Sys2Proof.Machine.execPipelineLineReturnsHigh s
  | .addressCharacterOfOtherValue value => Sys2Proof.Machine.execAddressCharacterOfOtherValue value s
  | .pipelineAddressOfOtherValue value => Sys2Proof.Machine.execPipelineAddressOfOtherValue value s

end Sys2Proof.Machine
end

