-- ==== Sys2Proof/Safety.lean ====
section
/-! DEFINITION. The terms that statements use: when the host link takes a request at once, the state a carried out
request leaves, and the invariants that the manual's prose states of the whole part. -/

namespace Sys2Proof.Machine

/-! ### Requests -/

/-- An addressed request with a tag. -/
def addressed (tag : Byte) : Envelope := { tag, broadcast := false }

/-- A request that arrives now is taken now: no request waits, and the reply queue has room (R174). -/
def State.Ready (s : State) : Prop := s.link.fifo = [] ∧ s.link.replies.length < 4

/-- The state that a carried out request leaves: the device it gives, and one reply more (R174). -/
def State.answered (s : State) (tag : Byte) (k : Kind) (d : Device) (status : Status) (body : List Byte) : State :=
  { s with
    dev := d, link.replies := s.link.replies ++ [{ tag, kind := k.code, answer := { status, body } }] }

/-- The request that a command of the catalogue hands to the host link, with its envelope. -/
def asRequest (c : Instr) : Option (Envelope × Request) :=
  match c with
  | .fullReset .. => none
  | .runCounterTick => none
  | .suiteClockTick => none
  | .tensionSample .. => none
  | .filmPresentRises => none
  | .filmPresentFalls => none
  | .perforationEdge .. => none
  | .acclimatizationExpiry .. => none
  | .reportDeadlineExpiry .. => none
  | .threadingTimerExpiry => none
  | .relaxTimerExpiry => none
  | .strainWarningPersistenceExpiry => none
  | .slipPersistenceExpiry => none
  | .requestFrame .. => none
  | .hostCharacterError => none
  | .hostGapTimeout => none
  | .hostBreak => none
  | .frameReport .. => none
  | .pipelineCharacterError => none
  | .pipelineGapTimeout => none
  | .pipelineBreak => none
  | .captureOrderSent => none
  | .replyStart => none
  | .replyComplete => none
  | .collision .. => none
  | .unknownRequestKind .. => none
  | .identify via => some (via, .identify)
  | .restartSuite via => some (via, .restartSuite)
  | .snapshotCounters via clear => some (via, .snapshotCounters clear)
  | .readCounters via => some (via, .readCounters)
  | .clearCounters via => some (via, .clearCounters)
  | .readClock via => some (via, .readClock)
  | .adjustClock via seconds micros => some (via, .adjustClock seconds micros)
  | .trimClock via trim => some (via, .trimClock trim)
  | .enrolReel via op => some (via, .enrolReel op)
  | .withdrawReel via reelId => some (via, .withdrawReel reelId)
  | .requestReel via reelId => some (via, .requestReel reelId)
  | .reelArrived via reelId => some (via, .reelArrived reelId)
  | .loadReel via reelId head => some (via, .loadReel reelId head)
  | .unloadReel via force => some (via, .unloadReel force)
  | .reelPlaced via reelId slot => some (via, .reelPlaced reelId slot)
  | .recallReel via reelId => some (via, .recallReel reelId)
  | .setCondition via op => some (via, .setCondition op)
  | .grantPasses via reelId passes => some (via, .grantPasses reelId passes)
  | .reelStatus via reelId => some (via, .reelStatus reelId)
  | .listReels via start => some (via, .listReels start)
  | .closeSlot via slot => some (via, .closeSlot slot)
  | .openSlot via slot => some (via, .openSlot slot)
  | .setZoneTime via zone minutes => some (via, .setZoneTime zone minutes)
  | .setZonePolicy via cls mask => some (via, .setZonePolicy cls mask)
  | .slotStatus via slot => some (via, .slotStatus slot)
  | .listHold via start => some (via, .listHold start)
  | .zoneStatus via zone => some (via, .zoneStatus zone)
  | .setTransport via op => some (via, .setTransport op)
  | .runPass via first last speed => some (via, .runPass first last speed)
  | .stop via => some (via, .stop)
  | .release via => some (via, .release)
  | .readIncident via => some (via, .readIncident)
  | .clearIncident via => some (via, .clearIncident)
  | .transportStatus via => some (via, .transportStatus)
  | .setHead via ref => some (via, .setHead ref)
  | .setMark via mark ref => some (via, .setMark mark ref)
  | .trackerStatus via => some (via, .trackerStatus)
  | .setCapture via timeout dust scratch => some (via, .setCapture timeout dust scratch)
  | .captureStatus via => some (via, .captureStatus)
  | .addDefect via op => some (via, .addDefect op)
  | .queueDefect via defect priority => some (via, .queueDefect defect priority)
  | .waiveDefect via defect => some (via, .waiveDefect defect)
  | .requeueDefect via defect priority => some (via, .requeueDefect defect priority)
  | .listDefects via op => some (via, .listDefects op)
  | .defectSummary via => some (via, .defectSummary)
  | .setDefectPolicy via kind threshold => some (via, .setDefectPolicy kind threshold)
  | .setStation via station enabled mask => some (via, .setStation station enabled mask)
  | .takeWork via station => some (via, .takeWork station)
  | .returnWork via station defect => some (via, .returnWork station defect)
  | .completeWorkRepaired via station defect => some (via, .completeWork station defect 0)
  | .completeWorkUnrepairable via station defect => some (via, .completeWork station defect 1)
  | .undoRepair via => some (via, .undoRepair)
  | .queueStatus via => some (via, .queueStatus)
  | .listQueue via priority start => some (via, .listQueue priority start)
  | .defineShot via ref label => some (via, .defineShot ref label)
  | .deleteShot via index => some (via, .deleteShot index)
  | .lockShot via index => some (via, .lockShot index)
  | .unlockShot via index => some (via, .unlockShot index)
  | .listShots via start => some (via, .listShots start)
  | .setRule via op => some (via, .setRule op)
  | .clearRule via rule => some (via, .clearRule rule)
  | .setFadeWindow via exponent => some (via, .setFadeWindow exponent)
  | .clearExtremes via => some (via, .clearExtremes)
  | .fadeStatus via => some (via, .fadeStatus)
  | .evaluateGrade via ref density => some (via, .evaluateGrade ref density)
  | .fetchNotices via => some (via, .fetchNotices)
  | .setAttentionMask via mask => some (via, .setAttentionMask mask)
  | .hostLineReturnsHigh => none
  | .pipelineLineReturnsHigh => none
  | .addressCharacterOfOtherValue .. => none
  | .pipelineAddressOfOtherValue .. => none

/-- Carried out at once, the request command leaves this device and appends a reply of its kind with this status and
body: with any tag, from any state whose link is ready. -/
def State.Gives (s : State) (c : Envelope → Instr) (k : Kind) (d : Device) (status : Status) (body : List Byte) : Prop :=
  ∀ tag, s.Ready → exec (c (addressed tag)) s = .next (s.answered tag k d status body)

/-- A nonzero id that names a record (R1). -/
def Device.Names (d : Device) (id : BitVec 32) (r : Reel) : Prop := id ≠ 0 ∧ d.findReel id.toNat = some r

/-- An id that names a defect record, with a reel LOADED (R103). -/
def Device.NamesDefect (d : Device) (id : BitVec 16) (r : Defect) : Prop :=
  d.loadedReel.isSome ∧ id.toNat ≤ 1023 ∧ d.findDefect id.toNat = some r

/-- An index that names a shot, with a reel LOADED (R140). -/
def Device.NamesShot (d : Device) (index : BitVec 16) (x : Shot) : Prop :=
  d.loadedReel.isSome ∧ index.toNat ≤ 511 ∧ d.gu.shots[index.toNat]? = some x

/-! ### The state after a full reset (R20, R37, R46, R70, R85, R102, R119, R139, R158, R164, R168) -/

/-- Every value of the device that the manual gives for a full reset. -/
def Device.FullResetValues (d : Device) : Prop :=
  d.reels = [] ∧ (∀ n < 256, d.slot n = .free) ∧ d.vault.hold = []
    ∧ d.vault.zoneMinutes = ⟨120, 1440, 240, 0⟩
    ∧ (∀ z, d.allowed .a z = true ↔ z = .cold ∨ z = .frozen)
    ∧ (∀ z, d.allowed .b z = true ↔ z = .cold ∨ z = .frozen)
    ∧ (∀ z, d.allowed .c z = true ↔ z = .frozen ∨ z = .isolation)
    ∧ (∀ z, d.allowed .d z = true ↔ z = .isolation)
    ∧ d.time.clock = ⟨0, 0⟩ ∧ d.time.trim = 0 ∧ d.time.remainder = 0 ∧ d.time.runCounter = 0
    ∧ d.tc.state = .empty ∧ d.tc.remembered = none ∧ d.tc.direction = none ∧ d.tc.target = none
    ∧ d.tc.faultCause = none ∧ d.tc.pass = none ∧ d.tc.pendingEnd = none ∧ d.tc.aligned = false
    ∧ d.tc.integrator = 0 ∧ d.tc.retries = 0 ∧ d.tc.feed = 0 ∧ d.tc.takeUp = 0 ∧ d.tc.watch = .inactive
    ∧ d.tc.relaxExpired = false ∧ d.tc.incident = none ∧ d.tc.incidentCount = 0 ∧ d.tc.strainLine = false
    ∧ d.tc.threadingDue = none ∧ d.tc.relaxDue = none ∧ d.tc.strainDue = none ∧ d.tc.slipDue = none
    ∧ d.tc.settings
        = { threadingTime := 5, faultTime := 200, retryPolicy := .count 3, relaxTime := 20, slipMargin := 80,
            slipAction := .stop, limitCap := none }
    ∧ d.speedDemand = 0 ∧ d.brake = false
    ∧ d.pt = none
    ∧ d.cu.orders = [] ∧ d.cu.tagCounter = 0 ∧ d.cu.gaps = 0 ∧ d.cu.timeout = 250 ∧ d.cu.dustLimit = 200
    ∧ d.cu.scratchLimit = 100
    ∧ d.dm.records = [] ∧ d.dm.thresholds = ⟨3, 3, 0, 0, 4, 5, 4, 8⟩
    ∧ d.rq.queues = ⟨[], [], [], []⟩ ∧ d.rq.occupancy = 0 ∧ d.rq.undo = []
    ∧ (∀ n < 8, d.station n = { state := .offline, mask := 0 })
    ∧ d.gu.shots = [] ∧ d.gu.window = 5
    ∧ d.gu.fade.toList = List.replicate 3 { sum := 0, count := 0, mean := 0, valid := false, extremes := none }
    ∧ (∀ r ∈ d.gu.rules.toList, r.enabled = false ∧ r.key = 0 ∧ r.length = 0 ∧ r.fadeMode = .off ∧ r.fixedFade = 0
        ∧ r.fadeGain = 0 ∧ r.exclude = false
        ∧ ∀ c ∈ r.channels.toList, c = { black := 0, gain := 0, offset := 0, trim := 0 })
    ∧ d.nl.notices = [] ∧ d.nl.overflow = 0 ∧ (∀ k : NoticeKind, d.nl.mask.getLsbD k.code = true)
    ∧ d.attentionLine = false
    ∧ (∀ n ∈ d.counters.toList, n = 0) ∧ (∀ n ∈ d.snapshot.values.toList, n = 0) ∧ d.snapshot.time = none
    ∧ d.pipe.parser = .hunt ∧ d.pipe.sending = none ∧ d.pipe.waiting = []

/-- The host link after a full reset, but for the pins it reads (R182). -/
def HostLink.FullResetValues (h : HostLink) : Prop :=
  h.parser = .hunt ∧ h.fifo = [] ∧ h.replies = [] ∧ h.lost = false ∧ h.sending = none
    ∧ h.overrunInReply = false

/-! ### Frames (12.4) -/

/-- The body of a FRAME_REPORT with these fields (12.4). -/
def reportBody (frame : BitVec 16) (mean base : PerChannel (BitVec 16)) (dust scratch : BitVec 16) (flags : Byte) :
    List Byte :=
  be16 frame ++ wrTriple be16 mean ++ wrTriple be16 base ++ be16 dust ++ be16 scratch ++ [flags]

/-- The CAPTURE_ORDER frame of an order, position by position (R184, R185, 12.4). -/
def captureOrderChars (o : Order) : List LineChar :=
  let g := o.grade
  let body :=
    u16 o.pass ++ u16 o.frame ++ u16 o.shot
      ++ u16 g.red.black ++ u16 g.green.black ++ u16 g.blue.black
      ++ u16 g.red.gain ++ u16 g.green.gain ++ u16 g.blue.gain
      ++ i16 g.red.offset ++ i16 g.green.offset ++ i16 g.blue.offset
      ++ u32 o.issued.seconds ++ u32 o.issued.micros
  let data := o.tag :: 160 :: 32 :: body
  ⟨true, 0⟩ :: (data ++ be16 (checkOf data)).map (LineChar.mk false)

/-! ### The host link (R173, R174, R176) -/

/-- A frame in progress holds only the characters of a frame not yet whole. -/
def Parser.partial_ (p : Parser) : Prop :=
  match p with
  | .hunt => True
  | .receive _ taken => frameProgress taken = .more

/-- FIFO and reply queue hold at most 4 (R173, R174); a request waits only while the reply queue is full; a reply is
being sent only while one is queued; an overrun during a reply has left the lost flag set; the parser holds a frame not
yet whole. -/
def State.LinkInv (s : State) : Prop :=
  s.link.fifo.length ≤ 4 ∧ s.link.replies.length ≤ 4 ∧ (s.link.fifo ≠ [] → s.link.replies.length = 4)
    ∧ (s.link.sending.isSome → s.link.replies ≠ [])
    ∧ (s.link.overrunInReply = true → s.link.lost = true ∧ s.link.sending.isSome) ∧ s.link.parser.partial_

/-! ### Notices and counters (R160, R165) -/

/-- At most 32 records, no two with the same kind and subject (R160). -/
def NoticeList.Inv (l : NoticeList) : Prop :=
  l.notices.length ≤ 32 ∧ (l.notices.map fun n => (n.kind, n.subject)).Nodup

/-- Every live counter is within 16 bits (R165). -/
def Counters.Inv (c : Counters) : Prop := ∀ n ∈ c.toList, n ≤ 65535

/-! ### Catalogue, vault and session (R1, R11, R22, R31) -/

/-- No two records share an id, at most 256 are held, at most one reel is LOADED (R1, R11); the hold queue holds
exactly the reels in HOLD, each once (R31). -/
def Device.CatalogueInv (d : Device) : Prop :=
  (d.reels.map (·.id)).Nodup ∧ d.reels.length ≤ 256
    ∧ (d.reels.countP fun r => decide (r.state = .loaded)) ≤ 1
    ∧ d.vault.hold.Nodup ∧ ∀ id, id ∈ d.vault.hold ↔ ∃ r ∈ d.reels, r.id = id ∧ r.state = .hold

/-- Passes remaining stays within 0 to 15 (R17). -/
def Device.PassesInv (d : Device) : Prop := ∀ r ∈ d.reels, r.passes ≤ 15

/-- What a slot's state says when a reel's record names the slot (R22). -/
def Reel.slotState (r : Reel) : Option (Nat × SlotState) :=
  match r.state with
  | .shelved n | .outbound n => some (n, .occupied r.id)
  | .returning n => some (n, .reserved r.id)
  | .acclimatizing _ | .ready | .loaded | .hold => none

/-- A reel holds a slot exactly when its state says so, and then that slot names it as owner (R22). -/
def Device.SlotInv (d : Device) : Prop :=
  (∀ r ∈ d.reels, ∀ n v, r.slotState = some (n, v) → n < 256 ∧ d.slot n = v)
    ∧ (∀ n < 256, ∀ id, (d.slot n).owner? = some id → ∃ r ∈ d.reels, r.id = id ∧ r.slotState = some (n, d.slot n))

/-- Every shot, queue, record and statistic of a session is gone (R11). -/
def Device.NoSession (d : Device) : Prop :=
  d.tc.state = .empty ∧ d.pt = none ∧ d.cu.orders = [] ∧ d.dm.records = [] ∧ d.gu.shots = []
    ∧ d.gu.fade = Grading.fadeCleared ∧ d.rq.queues = ⟨[], [], [], []⟩ ∧ d.rq.undo = []
    ∧ ∀ st ∈ d.rq.stations.toList, st.state.isWorking = false

/-- With no reel LOADED nothing of a session stands, and with one there is a tracker (R11, R71; 4.1). -/
def Device.SessionInv (d : Device) : Prop :=
  (d.loadedReel = none → d.NoSession) ∧ (d.loadedReel.isSome → d.pt.isSome)

/-! ### Defects, repair work and shots (R103, R120, R122, R124, R126, R132, R140) -/

/-- At most 1024 records, each with its creation index as id (R103). -/
def DefectMap.Inv (m : DefectMap) : Prop :=
  m.records.length ≤ 1024 ∧ ∀ (i : Nat) (r : Defect), m.records[i]? = some r → r.id = i

/-- The queues hold the entries of exactly the QUEUED records, each once and at the priority its record names; station
n works on an entry exactly when the entry's record is ASSIGNED to n; at most 192 entries are in use (R120, R122, R124,
R126). The undo stack holds at most 16 records, each of another REPAIRED defect (R132). -/
structure Device.RepairInv (d : Device) : Prop where
  occupancy : d.rq.occupancy ≤ 192
  once : ∀ p, ((d.rq.queues.get p).map (·.defect)).Nodup
  queued : ∀ p e, e ∈ d.rq.queues.get p ↔ ∃ r ∈ d.dm.records, r.state = .queued p ∧ e = ⟨r.id, r.kind⟩
  working : ∀ n e, (d.station n).state = .working e
    ↔ ∃ r ∈ d.dm.records, ∃ p, r.state = .assigned p n ∧ e = ⟨r.id, r.kind⟩
  undoDepth : d.rq.undo.length ≤ 16
  undoOnce : (d.rq.undo.map (·.defect)).Nodup
  undone : ∀ u ∈ d.rq.undo, u.station < 8 ∧ ∃ r ∈ d.dm.records, r.id = u.defect ∧ r.state = .repaired

/-- At most 512 shots, their first frames rising strictly, the first of them at frame 0 (R140). -/
def Grading.ShotsInv (g : Grading) : Prop :=
  g.shots.length ≤ 512 ∧ (g.shots.map (·.first)).Pairwise (· < ·) ∧ ∀ x ∈ g.shots.head?, x.first = 0

/-- The work of a session: its defects, their repair and its shots; there are shots exactly while a reel is LOADED, and
defects only then (R103, R119, R140, R157). -/
structure Device.WorkInv (d : Device) : Prop where
  map : d.dm.Inv
  repair : d.RepairInv
  shots : d.gu.ShotsInv
  loaded : d.loadedReel = none ↔ d.gu.shots = []
  unloaded : d.loadedReel = none → d.dm.records = []

/-! ### Capture orders (R86, R88) -/

/-- At most 8 orders are outstanding, no two hold the same tag, and the gap count has not reached 8 (R88, R91). -/
def Capture.Inv (c : Capture) : Prop := c.orders.length ≤ 8 ∧ (c.orders.map (·.tag)).Nodup ∧ c.gaps < 8

/-- An order waits at the pipeline's sender only while a frame is in progress, and the port's parser holds a frame not
yet whole (R178, R179). -/
def PipelinePort.Inv (p : PipelinePort) : Prop := (p.sending = none → p.waiting = []) ∧ p.parser.partial_

/-! ### The transport (R47, R57, R61 to R63, R65) -/

/-- The states in which a pass is in progress. -/
def TransportState.inPass : TransportState → Bool
  | .winding | .running | .limiting | .relaxing => true
  | .empty | .threading | .stopped | .fault => false

/-- What is present in each state of TC (R47, R59, R61 to R63). -/
def Transport.Inv (t : Transport) : Prop :=
  (t.remembered.isSome ↔ t.state = .limiting ∨ t.state = .relaxing)
    ∧ (t.faultCause.isSome ↔ t.state = .fault)
    ∧ (t.pass.isSome ↔ t.state.inPass = true)
    ∧ (t.pendingEnd.isSome → t.state = .winding ∨ t.state = .running ∨ t.state = .limiting)
    ∧ (t.direction.isSome ↔ t.state = .winding ∨ t.remembered = some .winding)
    ∧ (t.target.isSome ↔ t.direction.isSome)
    ∧ (t.threadingDue.isSome ↔ t.state = .threading)
    ∧ (t.relaxDue.isSome ↔ t.state = .relaxing ∧ t.relaxExpired = false)
    ∧ (t.strainDue.isSome → t.state = .limiting)
    ∧ (t.strainLine = true → t.state = .limiting)
    ∧ (t.slipDue.isSome ↔ t.watch = .timing)
    ∧ (t.watch = .inactive ↔ t.state ≠ .winding ∧ t.state ≠ .running)
    ∧ t.integrator ≤ t.settings.top

end Sys2Proof.Machine
end

