-- ==== Sys2Proof/Certificates/Slice0/Obligations.lean ====
section
/-! DEFINITION. The statements for the provers, each a proposition; which rule each formalises stands in its docstring
and in OBLIGATIONS.json. Requests are stated for a link that is ready: `State.Gives` (Safety.lean) says that exec answers
a next state with the device and the one reply it names. That a request command hands HL a good request, which HL takes
by R174, is the model's choice (log 1). -/

open Sys2Proof Sys2Proof.Machine

/-! ### The machine -/

/-- The command at the front of the queue is carried out with the queue's rest. The queue is the model's own (log 5);
that a step is whole is R174 and 95_what_each_step_holds.md. -/
def Obligations.StepRunsFrontCommand : Prop :=
  ∀ (c : Instr) (rest : List Instr) (s : State),
    step { s with pending := c :: rest } = exec c { s with pending := rest }

/-- No command stops the part: each answers a next state in every state, and leaves the waiting commands alone (R174,
R175: a request that may not be carried out is answered or dropped). -/
def Obligations.EveryCommandAnswersNextState : Prop :=
  ∀ (c : Instr) (s : State), ∃ t, exec c s = .next t ∧ t.pending = s.pending

/-- FULL_RESET reads the pins and brings every block to the values the manual gives (R20, R37, R46, R70, R85, R102,
R119, R139, R158, R164, R168, R182). -/
def Obligations.FullResetGivesEveryValue : Prop :=
  ∀ (address : BitVec 3) (rate : BitVec 2) (s : State), ∃ t, exec (.fullReset address rate) s = .next t
    ∧ t.dev.FullResetValues ∧ t.link.FullResetValues ∧ t.link.unitAddress = address ∧ t.link.rate = rate

/-- The state the model starts from holds the values the manual gives for a full reset, and every invariant stated
below. -/
def Obligations.ResetStateHoldsFullResetValues : Prop :=
  State.reset.dev.FullResetValues ∧ State.reset.link.FullResetValues ∧ State.reset.pending = []
  ∧ State.reset.LinkInv ∧ State.reset.dev.nl.Inv ∧ State.reset.dev.counters.Inv ∧ State.reset.dev.CatalogueInv
  ∧ State.reset.dev.PassesInv ∧ State.reset.dev.SlotInv ∧ State.reset.dev.SessionInv ∧ State.reset.dev.WorkInv
  ∧ State.reset.dev.cu.Inv ∧ State.reset.dev.pipe.Inv ∧ State.reset.dev.tc.Inv

/-! ### Requests on the host link (R171 to R175) -/

/-- An addressed request of any kind is carried out whole by its owner, and exactly one reply joins the reply queue,
with the request's tag and kind (R174, R175). -/
def Obligations.AddressedRequestIsCarriedOutAndAnswered : Prop :=
  ∀ (c : Instr) (tag : Byte) (q : Request) (s : State), asRequest c = some (addressed tag, q) → s.Ready →
    exec c s = .next (s.answered tag q.kind (carryOut s.link q s.dev).1 (carryOut s.link q s.dev).2.status
      (carryOut s.link q s.dev).2.body)

/-- A broadcast ADJUST_CLOCK, TRIM_CLOCK or RESTART_SUITE takes its effect and is not answered; a broadcast of any
other kind, known or not, changes nothing (R43, R175). -/
def Obligations.BroadcastRequestIsNotAnswered : Prop :=
  (∀ (c : Instr) (tag : Byte) (q : Request) (s : State), asRequest c = some (⟨tag, true⟩, q) → s.Ready →
    exec c s = .next
      (if q.kind = .adjustClock ∨ q.kind = .trimClock ∨ q.kind = .restartSuite then
        { s with dev := (carryOut s.link q s.dev).1 }
      else s))
  ∧ ∀ (tag kind : Byte) (body : List Byte) (s : State), Kind.ofCode kind = none → s.Ready →
    exec (.unknownRequestKind ⟨tag, true⟩ kind body) s = .next s

/-- While the reply queue is full, a request waits at the FIFO's tail and changes nothing else; with 4 waiting it is
dropped, the overrun counter rises and the lost flag is set (R173, R174); that an overrun during a reply is remembered
as one is the model's, log 19. A kind the catalogue does not list is answered UNKNOWN_KIND with an empty body, and a
known kind with a body of a length the catalogue does not give BAD_LENGTH; neither changes the device but for the count
of the good frame (R172, R175). -/
def Obligations.RequestsWaitAndUnknownOnesAreAnswered : Prop :=
  (∀ (c : Instr) (via : Envelope) (q : Request) (s : State), asRequest c = some (via, q) →
    4 ≤ s.link.replies.length → s.link.fifo.length ≤ 4 →
    exec c s = .next
      (if s.link.fifo.length < 4 then
        (let waiting : HostRequest := { tag := via.tag, kind := q.kind.code, body := q.body, broadcast := via.broadcast }
         { s with link.fifo := s.link.fifo ++ [waiting] })
      else { s with
        link.lost := true, link.overrunInReply := s.link.sending.isSome, dev := s.dev.count .overruns }))
  ∧ ((∀ (tag kind : Byte) (body : List Byte) (s : State), Kind.ofCode kind = none → s.Ready →
    exec (.unknownRequestKind (addressed tag) kind body) s
      = .next { s with link.replies := s.link.replies ++ [⟨tag, kind, ⟨.unknownKind, []⟩⟩] })
  ∧ ∀ (tag : Byte) (k : Kind) (body : List Byte) (s : State),
    (∀ q : Request, q.kind = k → q.body.length ≠ body.length) → body.length ≤ 240 → s.Ready →
    s.link.listening = true →
    exec (.requestFrame (frameChars (s.link.unitAddress.setWidth 8) (requestData tag k.code body))) s
      = .next { s with
          dev := s.dev.count .framesAccepted, link.parser := .hunt
          link.replies := s.link.replies ++ [⟨tag, k.code, ⟨.badLength, []⟩⟩] })

/-- The frame that carries a request, with its check, addressed to this unit, is read back as exactly that request: it
is counted, carried out and answered (R171, R172, R183 to R185). -/
def Obligations.RequestFrameIsReadBack : Prop :=
  ∀ (tag : Byte) (q : Request) (s : State), s.Ready → s.link.listening = true →
    exec (.requestFrame (frameChars (s.link.unitAddress.setWidth 8) (requestData tag q.kind.code q.body))) s
      = .next
        (let s' : State := { s with dev := s.dev.count .framesAccepted, link.parser := .hunt }
         s'.answered tag q.kind (carryOut s.link q s'.dev).1 (carryOut s.link q s'.dev).2.status
           (carryOut s.link q s'.dev).2.body)

/-- A frame whose two last characters are not its check is discarded and counted as a check error; one whose length
character is above 240 is discarded uncounted; one for another unit is passed over (R171, R172, R185). A character
error, a gap and a break discard the frame in progress, count it once and send the parser to HUNT; with no frame in
progress nothing is counted. A break stops the receiver until the line returns high (R170 to R172). -/
def Obligations.BadFramesAndLineErrorsAreDiscarded : Prop :=
  ((∀ (tag kind x y : Byte) (body : List Byte) (s : State), body.length ≤ 240 →
    be16 (checkOf (requestData tag kind body)) ≠ [x, y] → s.link.listening = true →
    exec (.requestFrame (⟨true, s.link.unitAddress.setWidth 8⟩ ::
        (requestData tag kind body ++ [x, y]).map (LineChar.mk false))) s
      = .next { s with dev := s.dev.count .checkErrors, link.parser := .hunt })
  ∧ (∀ (tag kind length : Byte) (s : State), 240 < length.toNat → s.link.listening = true →
    exec (.requestFrame [⟨true, s.link.unitAddress.setWidth 8⟩, ⟨false, tag⟩, ⟨false, kind⟩, ⟨false, length⟩]) s
      = .next { s with link.parser := .hunt })
  ∧ ∀ (address : Byte) (data : List Byte) (s : State), address ≠ s.link.unitAddress.setWidth 8 → address ≠ 15 →
    s.link.listening = true →
    exec (.requestFrame (frameChars address data)) s = .next { s with link.parser := .hunt })
  ∧ (∀ (s : State), s.link.listening = true →
    (∀ broadcast taken, s.link.parser = .receive broadcast taken →
      exec .hostCharacterError s = .next { s with dev := s.dev.count .characterErrors, link.parser := .hunt }
      ∧ exec .hostGapTimeout s = .next { s with dev := s.dev.count .timeouts, link.parser := .hunt }
      ∧ exec .hostBreak s
        = .next { s with dev := s.dev.count .characterErrors, link.parser := .hunt, link.lineLow := true })
    ∧ (s.link.parser = .hunt →
      exec .hostCharacterError s = .next s ∧ exec .hostGapTimeout s = .next s
      ∧ exec .hostBreak s = .next { s with link.lineLow := true })
    ∧ (∀ value, value ≠ s.link.unitAddress.setWidth 8 → value ≠ 15 →
      exec (.addressCharacterOfOtherValue value) s = .next { s with link.parser := .hunt })
    ∧ (∀ chars, exec (.requestFrame chars) { s with link.lineLow := true }
      = .next { s with link.lineLow := true })
    ∧ exec .hostLineReturnsHigh { s with link.lineLow := true } = .next s)

/-! ### Replies (R173, R174, R176, R177, R184) -/

/-- REPLY_START sends the oldest reply as a frame: unit address plus 16, tag, status character with the lost flag, kind,
length, body, check (R176, R184, R185). REPLY_COMPLETE takes it from the queue and clears the lost flag, but for an
overrun since the reply began. A COLLISION takes it too, is counted, leaves the parser in HUNT, and leaves the lost flag
as it was, or, the status character read back, as REPLY_COMPLETE does (R173, R177). Whenever a reply has left, waiting
requests are taken, oldest first, while fewer than 4 replies are queued: an addressed one is carried out and answered,
or answered UNKNOWN_KIND or BAD_LENGTH; a broadcast one takes its effect or is dropped, adds no reply, and the next is
taken (R174, R175). The model's choices: the status character and its lost flag are formed when the reply starts, the
flag is cleared when it ends or is stopped after that character, and an overrun during a reply is left for the next one
to carry (log 19); a start leaves the parser as it is (log 21); a start with no reply queued, and an end with none in
progress, change nothing (log 28). -/
def Obligations.RepliesLeaveOldestFirst : Prop :=
  ((∀ (r : Reply) (rest : List Reply) (s : State), s.link.listening = true → s.link.replies = r :: rest →
    let status := BitVec.ofNat 8 (r.answer.status.code + if s.link.lost then 128 else 0)
    let data := r.tag :: status :: r.kind :: BitVec.ofNat 8 r.answer.body.length :: r.answer.body
    let address := BitVec.ofNat 8 (s.link.unitAddress.toNat + 16)
    exec .replyStart s = .next { s with
      link.overrunInReply := false
      link.sending := some (⟨true, address⟩ :: (data ++ be16 (checkOf data)).map (LineChar.mk false)) })
  ∧ (∀ (frame : List LineChar) (s : State), s.link.sending = some frame →
    exec .replyComplete s = .next
      ({ s with
        link.replies := s.link.replies.tail, link.sending := none, link.lost := s.link.overrunInReply
        link.overrunInReply := false } : State).serve
    ∧ ∀ position, position < frame.length →
      exec (.collision position) s = .next
        ({ s with
          link.replies := s.link.replies.tail, link.sending := none, link.parser := .hunt
          link.lost := if position ≤ 2 then s.link.lost else s.link.overrunInReply, link.overrunInReply := false
          dev := s.dev.count .collisions } : State).serve)
  ∧ (∀ s : State, s.link.replies = [] → exec .replyStart s = .next s)
  ∧ ∀ s : State, s.link.sending = none →
    exec .replyComplete s = .next s ∧ ∀ position, exec (.collision position) s = .next s)
  ∧ (∀ s : State, s.link.fifo = [] ∨ 4 ≤ s.link.replies.length → s.serve = s)
  ∧ ∀ (tag : Byte) (rest : List HostRequest) (s : State), s.link.replies.length < 4 →
    let taken : State := { s with link.fifo := rest }
    let refused (kind : Byte) (broadcast : Bool) (status : Status) : State :=
      if broadcast then taken
      else { taken with link.replies := s.link.replies ++ [⟨tag, kind, ⟨status, []⟩⟩] }
    (∀ q : Request, s.link.fifo = { tag, kind := q.kind.code, body := q.body, broadcast := false } :: rest →
      s.serve = (taken.answered tag q.kind (carryOut s.link q s.dev).1 (carryOut s.link q s.dev).2.status
        (carryOut s.link q s.dev).2.body).serve)
    ∧ (∀ q : Request, s.link.fifo = { tag, kind := q.kind.code, body := q.body, broadcast := true } :: rest →
      s.serve =
        (if q.kind = .adjustClock ∨ q.kind = .trimClock ∨ q.kind = .restartSuite then
          { taken with dev := (carryOut s.link q s.dev).1 }
        else taken).serve)
    ∧ (∀ (kind : Byte) (body : List Byte) (broadcast : Bool), s.link.fifo = { tag, kind, body, broadcast } :: rest →
      Kind.ofCode kind = none → s.serve = (refused kind broadcast .unknownKind).serve)
    ∧ ∀ (k : Kind) (body : List Byte) (broadcast : Bool),
      s.link.fifo = { tag, kind := k.code, body, broadcast } :: rest →
      (∀ q : Request, q.kind = k → q.body.length ≠ body.length) →
      s.serve = (refused k.code broadcast .badLength).serve

/-! ### The pipeline port (R92, R178, R179) -/

/-- A frame of kind FRAME_REPORT with a body of 19 bytes is counted and its fields reach CU as 12.4 lays them out,
densities above 4095 taken as 4095 (R93, R178, R184, R185). On the pipeline port a frame with a wrong check, of
another kind, with a length character above 240, or a report of another length, and a frame in progress at a character
error, a gap, a break or an address other than 0, is counted once as a bad frame and reaches CU in nothing; with no
frame in progress nothing is counted (R178). CAPTURE_ORDER_SENT ends the frame in progress, and the oldest waiting
order's frame, as R184, R185 and 12.4 lay it out, is begun (R92, R179); with none in progress it changes nothing, which
is the model's choice (log 28). -/
def Obligations.PipelineFramesAreReadOrDiscarded : Prop :=
  (∀ (tag : Byte) (frame : BitVec 16) (mean base : PerChannel (BitVec 16)) (dust scratch : BitVec 16) (flags : Byte)
    (s : State), s.dev.pipe.lineLow = false →
    exec (.frameReport (frameChars 0 (requestData tag 161 (reportBody frame mean base dust scratch flags)))) s
      = .next { s with
          dev := (({ s.dev with pipe.parser := .hunt } : Device).count .pipelineFramesAccepted).report
            { tag, frame := frame.toNat, mean := mean.map fun x => min 4095 x.toNat
              base := base.map fun x => min 4095 x.toNat, dust := dust.toNat, scratch := scratch.toNat
              exposureClip := flags.getLsbD 0, focusFail := flags.getLsbD 1 } })
  ∧ (∀ (s : State), s.dev.pipe.lineLow = false →
    (∀ (tag kind x y : Byte) (body : List Byte), body.length ≤ 240 →
      (be16 (checkOf (requestData tag kind body)) ≠ [x, y] ∨ kind ≠ 161 ∨ body.length ≠ 19) →
      exec (.frameReport (⟨true, 0⟩ :: (requestData tag kind body ++ [x, y]).map (LineChar.mk false))) s
        = .next { s with dev := ({ s.dev with pipe.parser := .hunt } : Device).count .badFrames })
    ∧ (∀ broadcast taken, s.dev.pipe.parser = .receive broadcast taken →
      let bad : Device := ({ s.dev with pipe.parser := .hunt } : Device).count .badFrames
      exec .pipelineCharacterError s = .next { s with dev := bad }
      ∧ exec .pipelineGapTimeout s = .next { s with dev := bad }
      ∧ exec .pipelineBreak s = .next { s with dev := { bad with pipe.lineLow := true } }
      ∧ ∀ value, value ≠ 0 → exec (.pipelineAddressOfOtherValue value) s = .next { s with dev := bad })
    ∧ (s.dev.pipe.parser = .hunt →
      exec .pipelineCharacterError s = .next s ∧ exec .pipelineGapTimeout s = .next s
      ∧ exec .pipelineBreak s = .next { s with dev.pipe.lineLow := true }
      ∧ ∀ value, value ≠ 0 → exec (.pipelineAddressOfOtherValue value) s = .next s)
    ∧ exec .pipelineLineReturnsHigh { s with dev.pipe.lineLow := true } = .next s
    ∧ ∀ tag kind length : Byte, 240 < length.toNat →
      exec (.frameReport [⟨true, 0⟩, ⟨false, tag⟩, ⟨false, kind⟩, ⟨false, length⟩]) s
        = .next { s with dev := ({ s.dev with pipe.parser := .hunt } : Device).count .badFrames })
  ∧ (∀ s : State,
    (s.dev.pipe.sending = none → exec .captureOrderSent s = .next s)
    ∧ (s.dev.pipe.sending.isSome → s.dev.pipe.waiting = [] →
      exec .captureOrderSent s = .next { s with dev.pipe.sending := none })
    ∧ ∀ (o : Order) (rest : List Order), s.dev.pipe.sending.isSome → s.dev.pipe.waiting = o :: rest →
      exec .captureOrderSent s
        = .next { s with dev.pipe.sending := some (captureOrderChars o), dev.pipe.waiting := rest })

/-! ### Time (R38 to R42) -/

/-- The run counter rises by 1 with each tick; at its greatest value, which the manual says is not reached, it takes
some value the manual does not give (R39; log 9). No other command but a full reset changes it,
so no step or trim of the clock does (R39, R41, R42). -/
def Obligations.RunCounterCountsMilliseconds : Prop :=
  (∀ s : State, s.dev.time.runCounter < 2 ^ 48 - 1 →
    exec .runCounterTick s = .next { s with dev.time.runCounter := s.dev.time.runCounter + 1 })
  ∧ (∀ s : State, 2 ^ 48 - 1 ≤ s.dev.time.runCounter → ∃ n,
    exec .runCounterTick s = .next { s with dev.time.runCounter := n, dev.freeDraws := s.dev.freeDraws + 1 })
  ∧ ∀ (c : Instr) (s t : State), c ≠ .runCounterTick → (∀ address rate, c ≠ .fullReset address rate) →
    exec c s = .next t → t.dev.time.runCounter = s.dev.time.runCounter

/-- Over n reference microseconds the clock and its remainder advance together by exactly n times 1 + trim / 1,000,000
microseconds, so by 1,000,000 + trim over 1,000,000 of them; at its greatest value the clock stops (R38; that the
remainder stops with it is log 10). -/
def Obligations.SuiteClockRunsAtTrimmedRate : Prop :=
  (∀ (n : Nat) (s : State), s.dev.time.clock.micros < 1000000 → s.dev.time.remainder < 1000000 →
    -500 ≤ s.dev.time.trim → s.dev.time.trim ≤ 500 →
    let now := s.dev.time.clock.seconds * 1000000 + s.dev.time.clock.micros
    let sum := s.dev.time.remainder + n * (1000000 + s.dev.time.trim).toNat
    let after := now + sum / 1000000
    after < 4294967295 * 1000000 + 999999 →
    Sys2Proof.core.run n ({ s with pending := List.replicate n .suiteClockTick } : State) = .next ({ s with
      pending := [], dev.time.clock := ⟨after / 1000000, after % 1000000⟩
      dev.time.remainder := sum % 1000000 } : State))
  ∧ (∀ s : State, s.dev.time.clock.micros < 1000000 → s.dev.time.remainder < 1000000 →
    -500 ≤ s.dev.time.trim → s.dev.time.trim ≤ 500 →
    let now := s.dev.time.clock.seconds * 1000000 + s.dev.time.clock.micros
    now < 4294967295 * 1000000 + 999999 →
    let sum := s.dev.time.remainder + (1000000 + s.dev.time.trim).toNat
    let after := min (4294967295 * 1000000 + 999999) (now + sum / 1000000)
    exec .suiteClockTick s = .next { s with
      dev.time.clock := ⟨after / 1000000, after % 1000000⟩, dev.time.remainder := sum % 1000000 })
  ∧ ∀ s : State, s.dev.time.clock = ⟨4294967295, 999999⟩ → exec .suiteClockTick s = .next s

/-- ADJUST_CLOCK refuses 1,000,000 microseconds or more, and else steps the clock by the exact sum, brought into
range; the remainder and the trim keep their values (R41). TRIM_CLOCK stores the trim brought within 500 ppm (R42). -/
def Obligations.AdjustAndTrimSetTheClock : Prop :=
  (∀ (seconds micros : BitVec 32) (s : State),
    (1000000 ≤ micros.toNat → s.Gives (.adjustClock · seconds micros) .adjustClock s.dev .badValue [])
    ∧ (micros.toNat < 1000000 →
      let sum : Int := s.dev.time.clock.seconds * 1000000 + s.dev.time.clock.micros + seconds.toInt * 1000000
        + micros.toNat
      let clock : SuiteTime :=
        if sum < 0 then ⟨0, 0⟩
        else if 4294967295999999 < sum then ⟨4294967295, 999999⟩
        else ⟨sum.toNat / 1000000, sum.toNat % 1000000⟩
      s.Gives (.adjustClock · seconds micros) .adjustClock { s.dev with time.clock := clock }
        (if sum < 0 ∨ 4294967295999999 < sum then .okClamped else .ok) (u32 clock.seconds ++ u32 clock.micros)))
  ∧ ∀ (trim : BitVec 16) (s : State),
    let stored : Int := if trim.toInt < -500 then -500 else if 500 < trim.toInt then 500 else trim.toInt
    s.Gives (.trimClock · trim) .trimClock { s.dev with time.trim := stored }
      (if stored = trim.toInt then .ok else .okClamped) (i16 stored)

/-! ### The Reel Catalogue (R1 to R20) -/

/-- ENROL_REEL refuses, in order, a field out of range, an id already held, a full catalogue and a slot that is not
FREE. Accepted, the record joins the end of the order: SHELVED in its slot, which becomes OCCUPIED by it, with
MISPLACED posted where its class's mask leaves out the slot's zone; or READY or ACCLIMATIZING by the zone's time. -/
def Obligations.EnrolReelAddsRecord : Prop :=
  (∀ (op : EnrolOperands) (s : State),
    (op.reelId = 0 ∨ op.length = 0 ∨ 999 < op.shrinkage.toNat ∨ Gauge.ofCode op.gauge.toNat = none
      ∨ DecayClass.ofCode op.cls.toNat = none ∨ yesNo op.permit = none ∨ Zone.ofCode op.home.toNat = none
      ∨ (15 < op.passes.toNat ∧ op.passes.toNat < 255)
      ∨ (op.location.kind = 0 ∧ 255 < op.location.value.toNat)
      ∨ (op.location.kind = 1 ∧ Zone.ofCode op.location.value.toNat = none) ∨ 1 < op.location.kind.toNat) →
    s.Gives (.enrolReel · op) .enrolReel s.dev .badValue [])
  ∧ ∀ (op : EnrolOperands) (gauge : Gauge) (cls : DecayClass) (permit : Bool) (home : Zone) (s : State),
    op.reelId ≠ 0 → op.length ≠ 0 → op.shrinkage.toNat ≤ 999 → Gauge.ofCode op.gauge.toNat = some gauge →
    DecayClass.ofCode op.cls.toNat = some cls → yesNo op.permit = some permit → Zone.ofCode op.home.toNat = some home →
    (op.passes.toNat ≤ 15 ∨ op.passes = 255) →
    let id := op.reelId.toNat
    let default : Nat := match cls with | .a => 15 | .b => 10 | .c => 6 | .d => 3
    let reel (state : ReelState) : Reel :=
      { id, gauge, length := op.length.toNat, label := op.label, cls, permit, shrinkage := op.shrinkage.toNat
        passes := if op.passes = 255 then default else op.passes.toNat, passTotal := 0
        fadeRef := op.fade.map fun x => min 4095 x.toNat, home, state, deferred := 0, graded := false
        sessionLost := false }
    let status : Status :=
      if 4095 < op.fade.red.toNat ∨ 4095 < op.fade.green.toNat ∨ 4095 < op.fade.blue.toNat then .okClamped else .ok
    (∀ n : Nat, n ≤ 255 → op.location = ⟨0, BitVec.ofNat 16 n⟩ →
      ((∃ r ∈ s.dev.reels, r.id = id) → s.Gives (.enrolReel · op) .enrolReel s.dev .badValue [])
      ∧ ((∀ r ∈ s.dev.reels, r.id ≠ id) →
        (256 ≤ s.dev.reels.length → s.Gives (.enrolReel · op) .enrolReel s.dev .full [])
        ∧ (s.dev.reels.length < 256 →
          (s.dev.slot n ≠ .free → s.Gives (.enrolReel · op) .enrolReel s.dev .wrongState [])
          ∧ (s.dev.slot n = .free →
            let d : Device := ({ s.dev with reels := s.dev.reels ++ [reel (.shelved n)] } : Device).setSlot n (.occupied id)
            s.Gives (.enrolReel · op) .enrolReel
              (if s.dev.allowed cls (zoneOf n) then d else d.post .misplaced id n) status
              ((reel (.shelved n)).bytes s.dev.time.runCounter)))))
    ∧ ∀ z : Zone, op.location = ⟨1, BitVec.ofNat 16 z.code⟩ →
      ((∃ r ∈ s.dev.reels, r.id = id) → s.Gives (.enrolReel · op) .enrolReel s.dev .badValue [])
      ∧ ((∀ r ∈ s.dev.reels, r.id ≠ id) →
        (256 ≤ s.dev.reels.length → s.Gives (.enrolReel · op) .enrolReel s.dev .full [])
        ∧ (s.dev.reels.length < 256 →
          let minutes := s.dev.vault.zoneMinutes.get z
          let new := reel (if minutes = 0 then .ready else .acclimatizing (s.dev.time.runCounter + 60000 * minutes))
          s.Gives (.enrolReel · op) .enrolReel { s.dev with reels := s.dev.reels ++ [new] } status
            (new.bytes s.dev.time.runCounter)))

/-- WITHDRAW_REEL deletes the record of a reel that is SHELVED (its slot is freed and offered), ACCLIMATIZING, READY,
or in HOLD (it leaves the queue), and refuses every other state with WRONG_STATE (R4). REEL_PLACED shelves a RETURNING
reel in its reserved slot, or in another FREE slot that it may use, whose old reservation is then freed and offered;
any other slot is refused. RECALL_REEL makes a RETURNING or held reel READY, freeing and offering its slot or taking
it from the queue (R12, R13). -/
def Obligations.WithdrawnPlacedAndRecalledReels : Prop :=
  (∀ (id : BitVec 32) (r : Reel) (s : State), s.dev.Names id r →
    let gone : Device := { s.dev with reels := s.dev.reels.filter fun x => decide (x.id ≠ r.id) }
    (∀ n, r.state = .shelved n →
      s.Gives (.withdrawReel · id) .withdrawReel ((gone.setSlot n .free).offer n) .ok [])
    ∧ (((∃ deadline, r.state = .acclimatizing deadline) ∨ r.state = .ready) →
      s.Gives (.withdrawReel · id) .withdrawReel gone .ok [])
    ∧ (r.state = .hold → s.Gives (.withdrawReel · id) .withdrawReel
        { gone with vault.hold := s.dev.vault.hold.erase r.id } .ok [])
    ∧ (((∃ n, r.state = .outbound n) ∨ (∃ n, r.state = .returning n) ∨ r.state = .loaded) →
      s.Gives (.withdrawReel · id) .withdrawReel s.dev .wrongState []))
  ∧ (∀ (id : BitVec 32) (r : Reel) (s : State), s.dev.Names id r →
    (∀ slot : BitVec 16,
      let n := slot.toNat
      let mayUse := (0 < r.deferred ∧ zoneOf n = .workroom) ∨ s.dev.allowed r.cls (zoneOf n) = true
      let shelved := (s.dev.setSlot n (.occupied r.id)).setReel r.id fun x => { x with state := .shelved n }
      (255 < n → s.Gives (.reelPlaced · id slot) .reelPlaced s.dev .badValue [])
      ∧ (n ≤ 255 → (∀ old, r.state ≠ .returning old) → s.Gives (.reelPlaced · id slot) .reelPlaced s.dev .wrongState [])
      ∧ (n ≤ 255 → r.state = .returning n → s.Gives (.reelPlaced · id slot) .reelPlaced shelved .ok [])
      ∧ ∀ old, n ≤ 255 → old ≠ n → r.state = .returning old →
        (s.dev.slot n = .free ∧ mayUse →
          s.Gives (.reelPlaced · id slot) .reelPlaced ((shelved.setSlot old .free).offer old) .ok [])
        ∧ (¬ (s.dev.slot n = .free ∧ mayUse) → s.Gives (.reelPlaced · id slot) .reelPlaced s.dev .badValue []))
    ∧ (∀ n, r.state = .returning n → s.Gives (.recallReel · id) .recallReel
        (((s.dev.setSlot n .free).setReel r.id fun x => { x with state := .ready }).offer n) .ok [])
    ∧ (r.state = .hold → s.Gives (.recallReel · id) .recallReel
        (({ s.dev with vault.hold := s.dev.vault.hold.erase r.id } : Device).setReel r.id
          fun x => { x with state := .ready }) .ok [])
    ∧ ((∀ n, r.state ≠ .returning n) → r.state ≠ .hold →
      s.Gives (.recallReel · id) .recallReel s.dev .wrongState []))

/-- REQUEST_REEL sends a SHELVED reel out, its slot still its own; in any other state it changes nothing (R5). -/
def Obligations.RequestReelSendsShelvedReelOut : Prop :=
  ∀ (id : BitVec 32) (r : Reel) (s : State), s.dev.Names id r →
    (∀ n, r.state = .shelved n → s.Gives (.requestReel · id) .requestReel
      { s.dev with reels := s.dev.reels.map fun x => if x.id = r.id then { x with state := .outbound n } else x } .ok [])
    ∧ ((∀ n, r.state ≠ .shelved n) → s.Gives (.requestReel · id) .requestReel s.dev .wrongState [])

/-- REEL_ARRIVED frees an OUTBOUND reel's slot, makes the reel READY or ACCLIMATIZING by the time of the slot's zone,
and offers the slot; in any other state it is refused. The expiry of a reached acclimatization deadline makes the reel
READY and posts REEL_READY (R6, R7). That the expiry command acts late too, and does nothing where the deadline is not
reached, is the model's choice (log 4). That the reply always sends the deadline, after a presence byte, and sends it
absent where the reel is READY, is the model's choice, log 13: the rule carries the deadline only in ACCLIMATIZING. -/
def Obligations.ArrivedReelAcclimatizes : Prop :=
  (∀ (id : BitVec 32) (r : Reel) (s : State), s.dev.Names id r →
    (∀ n, r.state = .outbound n →
      let minutes := s.dev.vault.zoneMinutes.get (zoneOf n)
      let state : ReelState :=
        if minutes = 0 then .ready else .acclimatizing (s.dev.time.runCounter + 60000 * minutes)
      let d := (s.dev.setSlot n .free).setReel r.id fun x => { x with state := state }
      s.Gives (.reelArrived · id) .reelArrived (d.offer n) .ok
        (if minutes = 0 then u8 3 ++ counterBytes none
          else u8 2 ++ counterBytes (some (s.dev.time.runCounter + 60000 * minutes))))
    ∧ ((∀ n, r.state ≠ .outbound n) → s.Gives (.reelArrived · id) .reelArrived s.dev .wrongState []))
  ∧ ∀ (id : BitVec 32) (r : Reel) (s : State), s.dev.findReel id.toNat = some r →
    (∀ deadline, r.state = .acclimatizing deadline → deadline ≤ s.dev.time.runCounter →
      exec (.acclimatizationExpiry id) s = .next { s with
        dev := (s.dev.setReel r.id fun x => { x with state := .ready }).post .reelReady r.id 0 })
    ∧ ((∀ deadline, r.state = .acclimatizing deadline → s.dev.time.runCounter < deadline) →
      exec (.acclimatizationExpiry id) s = .next s)

/-- LOAD_REEL refuses a head frame outside the reel, then a reel not READY or a suite already loaded. Accepted, it
sets up an empty session of the reel: no defects, one shot, cleared statistics, the tracker at its starting pitch,
empty queues, no limit cap; policies, rules, stations and the transport's state stay (R8, R71). -/
def Obligations.LoadReelStartsSession : Prop :=
  ∀ (id : BitVec 32) (head : Option (BitVec 16)) (r : Reel) (s : State), s.dev.Names id r →
    let frame := (head.getD 0).toNat
    (r.length ≤ frame → s.Gives (.loadReel · id head) .loadReel s.dev .badValue [])
    ∧ (frame < r.length →
      (r.state ≠ .ready ∨ s.dev.loadedReel.isSome → s.Gives (.loadReel · id head) .loadReel s.dev .wrongState [])
      ∧ (r.state = .ready → s.dev.loadedReel = none →
        let nominal : Nat := match r.gauge with | .g35 => 4750 | .g16 => 7620
        let cleared : FadeChannel := { sum := 0, count := 0, mean := 0, valid := false, extremes := none }
        s.Gives (.loadReel · id head) .loadReel
          { s.dev with
            reels := s.dev.reels.map fun x =>
              if x.id = r.id then { x with state := .loaded, sessionLost := false } else x
            dm.records := []
            gu.shots := [{ first := 0, label := r.label, snapshot := none, clipRisk := 0 }]
            gu.fade := ⟨cleared, cleared, cleared⟩
            pt := some
              { gauge := r.gauge, length := r.length, last := none, p16 := 16 * nominal * (10000 - r.shrinkage) / 10000
                count := 0, head := frame, markA := none, markB := none, latest := 0, peak := r.shrinkage }
            rq.queues := ⟨[], [], [], []⟩, rq.undo := [], tc.settings.limitCap := none }
          .ok (({ r with state := .loaded, sessionLost := false } : Reel).bytes s.dev.time.runCounter)))

/-- UNLOAD_REEL refuses without a LOADED reel, with film in the transport, and, without FORCE, with open work, which it
counts. Accepted, it ends the session: results stored, orders dropped, the reel sent to the slot R29 chooses or to the
hold queue, and the session's state emptied; with FORCE the open work is counted as deferred first (R9, R10, R11). A
FORCE byte that is neither yes nor no is refused with BAD_VALUE before that, with or without a LOADED reel (R183). That
the reply sends the slot at its absent value where none was reserved is the model's choice, log 13: the rule carries the
slot only when one was. -/
def Obligations.UnloadReelEndsTheSession : Prop :=
  (∀ (r : Reel) (s : State), s.dev.loadedReel = some r → s.dev.findReel r.id = some r →
    let queued := s.dev.dm.records.countP (·.state.isQueued)
    let assigned := s.dev.dm.records.countP (·.state.isAssigned)
    let gaps := s.dev.dm.records.countP fun x => decide (x.kind = .scanGap) && decide (x.state = .found)
    let unlocked := s.dev.gu.shots.countP (·.snapshot.isNone)
    let cleared : FadeChannel := { sum := 0, count := 0, mean := 0, valid := false, extremes := none }
    let ended (d : Device) : Device :=
      { d with
        cu.orders := [], cu.gaps := 0, dm.records := [], gu.shots := [], gu.fade := ⟨cleared, cleared, cleared⟩, pt := none
        rq.queues := ⟨[], [], [], []⟩, rq.undo := []
        rq.stations := d.rq.stations.map fun x => if x.state.isWorking then { x with state := .idle } else x }
    let accepted (force : Byte) (graded : Bool) (deferred : Nat) : Prop :=
      let r' : Reel := { r with graded := graded, deferred := deferred }
      let d := s.dev.setReel r.id fun x => { x with graded := graded, deferred := deferred }
      (∀ n, s.dev.returnSlot r' = some n → s.Gives (.unloadReel · force) .unloadReel
        (ended ((d.setSlot n (.reserved r.id)).setReel r.id fun x => { x with state := .returning n })) .ok
        (u8 6 ++ u16 n ++ u16 deferred ++ flag graded))
      ∧ (s.dev.returnSlot r' = none → s.Gives (.unloadReel · force) .unloadReel
        (ended (({ d.setReel r.id fun x => { x with state := .hold } with
          vault.hold := d.vault.hold ++ [r.id] } : Device).post .reelHeld r.id 0)) .ok
        (u8 5 ++ u16 65535 ++ u16 deferred ++ flag graded))
    (∀ force : Byte, 1 < force.toNat → s.Gives (.unloadReel · force) .unloadReel s.dev .badValue [])
    ∧ (s.dev.tc.state ≠ .empty → ∀ force : Byte, force.toNat ≤ 1 →
      s.Gives (.unloadReel · force) .unloadReel s.dev .wrongState [])
    ∧ (s.dev.tc.state = .empty → accepted 1 (decide (unlocked = 0)) (queued + assigned + gaps))
    ∧ (s.dev.tc.state = .empty → 0 < queued + assigned + gaps + unlocked →
      s.Gives (.unloadReel · 0) .unloadReel s.dev .openWork (u16 queued ++ u16 assigned ++ u16 gaps ++ u16 unlocked))
    ∧ (s.dev.tc.state = .empty → queued + assigned + gaps + unlocked = 0 → accepted 0 true 0))
  ∧ (∀ (force : Byte) (s : State), s.dev.loadedReel = none →
    s.Gives (.unloadReel · force) .unloadReel s.dev (if 1 < force.toNat then .badValue else .wrongState) [])

/-- SET_CONDITION replaces class, permit and fade reference, in every state, each fade channel brought to 4095; a reel
that holds a slot outside its new class's mask is noticed. A class or permit byte outside its range is refused (R14).
A new peak of the LOADED reel raises its recorded shrinkage, and from 150 its class to C, from 250 to D, never down:
on a raise the passes are capped at the new class's default, CONDITION_RAISED is posted, and a class D without a
permit asks for the end of the pass (R18). -/
def Obligations.ConditionIsSetAndEscalated : Prop :=
  (∀ (op : ConditionOperands) (r : Reel) (s : State), s.dev.Names op.reelId r →
    (DecayClass.ofCode op.cls.toNat = none ∨ yesNo op.permit = none →
      s.Gives (.setCondition · op) .setCondition s.dev .badValue [])
    ∧ ∀ cls permit, DecayClass.ofCode op.cls.toNat = some cls → yesNo op.permit = some permit →
      let fade := op.fade.map fun x => min 4095 x.toNat
      let d := s.dev.setReel r.id fun x => { x with cls := cls, permit := permit, fadeRef := fade }
      s.Gives (.setCondition · op) .setCondition
        (match r.state.slot? with
          | some n => if s.dev.allowed cls (zoneOf n) then d else d.post .misplaced r.id n
          | none => d)
        (if 4095 < op.fade.red.toNat ∨ 4095 < op.fade.green.toNat ∨ 4095 < op.fade.blue.toNat then .okClamped else .ok)
        (({ r with cls := cls, permit := permit, fadeRef := fade } : Reel).bytes s.dev.time.runCounter))
  ∧ (∀ (peak : Nat) (r : Reel) (d : Device), d.loadedReel = some r →
    let shrinkage := max r.shrinkage peak
    let d1 := d.setReel r.id fun x => { x with shrinkage := shrinkage }
    let raised (cls : DecayClass) (limit : Nat) : Device :=
      (d1.setReel r.id fun x => { x with cls := cls, passes := min x.passes limit }).post .conditionRaised r.id cls.code
    (shrinkage < 150 → d.escalate peak = d1)
    ∧ (150 ≤ shrinkage → shrinkage < 250 →
      d.escalate peak = if r.cls = .a ∨ r.cls = .b then raised .c 6 else d1)
    ∧ (250 ≤ shrinkage → d.escalate peak =
      if r.cls = .d then d1 else if r.permit then raised .d 3 else (raised .d 3).askEnd .condition))

/-- GRANT_PASSES adds to the passes remaining, to 15 at most, in every reel state, and carries the new value (R15). -/
def Obligations.GrantPassesAddsToFifteen : Prop :=
  ∀ (id : BitVec 32) (n : Byte) (r : Reel) (s : State), s.dev.Names id r →
    s.Gives (.grantPasses · id n) .grantPasses
      { s.dev with reels := s.dev.reels.map fun x =>
          if x.id = r.id then { x with passes := min (r.passes + n.toNat) 15 } else x }
      (if r.passes + n.toNat ≤ 15 then .ok else .okClamped) (u8 (min (r.passes + n.toNat) 15))

/-! ### Names (R1, R21, R103, R140) -/

/-- Before any check of its own, a request that names a reel refuses id 0 with BAD_VALUE and an id no record carries
with NOT_FOUND; one that names a slot above 255 or a zone above 3 is BAD_VALUE; one that names a defect or a shot is
WRONG_STATE with no reel LOADED, BAD_VALUE above 1023 or 511, and NOT_FOUND for no such record (R1, R21, R103, R140).
REEL_PLACED names a reel and a slot: that the reel is checked before the slot is the model's choice (log 24). -/
def Obligations.NamedThingsAreCheckedFirst : Prop :=
  ∀ s : State,
    let reel (k : Kind) (c : BitVec 32 → Envelope → Instr) : Prop :=
      s.Gives (c 0) k s.dev .badValue []
      ∧ ∀ id : BitVec 32, id ≠ 0 → (∀ r ∈ s.dev.reels, r.id ≠ id.toNat) → s.Gives (c id) k s.dev .notFound []
    let slot (k : Kind) (c : BitVec 16 → Envelope → Instr) : Prop :=
      ∀ n : BitVec 16, 255 < n.toNat → s.Gives (c n) k s.dev .badValue []
    let zone (k : Kind) (c : Byte → Envelope → Instr) : Prop :=
      ∀ n : Byte, 3 < n.toNat → s.Gives (c n) k s.dev .badValue []
    let session (k : Kind) (c : BitVec 16 → Envelope → Instr) (top : Nat) (held : Nat → Prop) : Prop :=
      ∀ id : BitVec 16,
        (s.dev.loadedReel = none → s.Gives (c id) k s.dev .wrongState [])
        ∧ (s.dev.loadedReel.isSome → top < id.toNat → s.Gives (c id) k s.dev .badValue [])
        ∧ (s.dev.loadedReel.isSome → id.toNat ≤ top → ¬ held id.toNat → s.Gives (c id) k s.dev .notFound [])
    let defect (k : Kind) (c : BitVec 16 → Envelope → Instr) : Prop :=
      session k c 1023 fun id => ∃ r ∈ s.dev.dm.records, r.id = id
    let shot (k : Kind) (c : BitVec 16 → Envelope → Instr) : Prop :=
      session k c 511 fun i => i < s.dev.gu.shots.length
    reel .withdrawReel (fun id => (.withdrawReel · id)) ∧ reel .requestReel (fun id => (.requestReel · id))
    ∧ reel .reelArrived (fun id => (.reelArrived · id)) ∧ (∀ head, reel .loadReel fun id => (.loadReel · id head))
    ∧ (∀ n, reel .reelPlaced fun id => (.reelPlaced · id n)) ∧ reel .recallReel (fun id => (.recallReel · id))
    ∧ (∀ cls permit fade, reel .setCondition fun id => (.setCondition · ⟨id, cls, permit, fade⟩))
    ∧ (∀ n, reel .grantPasses fun id => (.grantPasses · id n)) ∧ reel .reelStatus (fun id => (.reelStatus · id))
    ∧ slot .closeSlot (fun n => (.closeSlot · n)) ∧ slot .openSlot (fun n => (.openSlot · n))
    ∧ slot .slotStatus (fun n => (.slotStatus · n))
    ∧ (∀ t, zone .setZoneTime fun n => (.setZoneTime · n t)) ∧ zone .zoneStatus (fun n => (.zoneStatus · n))
    ∧ (∀ p, defect .queueDefect fun id => (.queueDefect · id p)) ∧ defect .waiveDefect (fun id => (.waiveDefect · id))
    ∧ (∀ p, defect .requeueDefect fun id => (.requeueDefect · id p))
    ∧ shot .deleteShot (fun i => (.deleteShot · i)) ∧ shot .lockShot (fun i => (.lockShot · i))
    ∧ shot .unlockShot (fun i => (.unlockShot · i))

/-! ### The Shelf Allocator (R21 to R37) -/

/-- CLOSE_SLOT closes a FREE slot. OPEN_SLOT frees a CLOSED one and offers it: the oldest held reel that may use it
takes it, reserved, with SLOT_OFFERED, and else it stays FREE. Any other state is refused with the state (R24, R25,
R32). SET_ZONE_TIME stores the time, to 4320 minutes at most, and moves no deadline (R26). SET_ZONE_POLICY replaces the
mask, notices each reel of the class that holds a slot outside it, in enrolment order, and offers every FREE slot in
ascending order (R28). That the reply's mask is one byte, as in the request, is the model's choice, log 13. -/
def Obligations.SlotsAndZonesAreSet : Prop :=
  (∀ (slot : BitVec 16) (s : State), slot.toNat ≤ 255 →
    let n := slot.toNat
    let code : Nat := match s.dev.slot n with | .free => 0 | .reserved _ => 1 | .occupied _ => 2 | .closed => 3
    (s.dev.slot n = .free → s.Gives (.closeSlot · slot) .closeSlot (s.dev.setSlot n .closed) .ok [])
    ∧ (s.dev.slot n ≠ .free → s.Gives (.closeSlot · slot) .closeSlot s.dev .wrongState (u8 code))
    ∧ (s.dev.slot n ≠ .closed → s.Gives (.openSlot · slot) .openSlot s.dev .wrongState (u8 code))
    ∧ (s.dev.slot n = .closed →
      let mayUse (id : Nat) : Prop :=
        ∃ r, s.dev.findReel id = some r
          ∧ ((0 < r.deferred ∧ zoneOf n = .workroom) ∨ s.dev.allowed r.cls (zoneOf n) = true)
      ((∀ id ∈ s.dev.vault.hold, ¬ mayUse id) →
        s.Gives (.openSlot · slot) .openSlot (s.dev.setSlot n .free) .ok [])
      ∧ ∀ older id younger, s.dev.vault.hold = older ++ id :: younger → (∀ x ∈ older, x ≠ id ∧ ¬ mayUse x) → mayUse id →
        s.Gives (.openSlot · slot) .openSlot
          (((({ s.dev with vault.hold := older ++ younger } : Device).setSlot n (.reserved id)).setReel id
            fun r => { r with state := .returning n }).post .slotOffered id n) .ok []))
  ∧ ((∀ (z : Zone) (minutes : BitVec 16) (s : State),
    s.Gives (.setZoneTime · (BitVec.ofNat 8 z.code) minutes) .setZoneTime
      { s.dev with vault.zoneMinutes := s.dev.vault.zoneMinutes.set z (min 4320 minutes.toNat) }
      (if minutes.toNat ≤ 4320 then .ok else .okClamped) (u16 (min 4320 minutes.toNat)))
  ∧ (∀ (cls mask : Byte) (s : State), 3 < cls.toNat ∨ 15 < mask.toNat →
    s.Gives (.setZonePolicy · cls mask) .setZonePolicy s.dev .badValue [])
  ∧ ∀ (cls : DecayClass) (mask : Byte) (s : State), mask.toNat ≤ 15 → (s.dev.reels.map (·.id)).Nodup →
    let replaced : Device := { s.dev with vault.masks := s.dev.vault.masks.set cls (mask.setWidth 4) }
    let noticed : Device := (s.dev.reels.filter fun r => decide (r.cls = cls)).foldl (fun d r =>
      match r.state.slot? with
      | some n => if mask.getLsbD (zoneOf n).code then d else d.post .misplaced r.id n
      | none => d) replaced
    s.Gives (.setZonePolicy · (BitVec.ofNat 8 cls.code) mask) .setZonePolicy
      ((List.range 256).foldl (fun d n => if d.slot n = .free then d.offer n else d) noticed) .ok [mask])

/-- The return slot is the lowest FREE slot of the first zone that has one, in this order: WORKROOM for a reel with
deferred work, the home zone if its class's mask has it, then the other zones of the mask, ascending (R29). -/
def Obligations.ReturnSlotFollowsTheAllocationOrder : Prop :=
  ∀ (r : Reel) (d : Device),
    let zones : List Zone := (if 0 < r.deferred then [.workroom] else [])
      ++ (if d.allowed r.cls r.home then [r.home] else [])
      ++ [Zone.cold, .frozen, .isolation, .workroom].filter fun z => decide (z ≠ r.home) && d.allowed r.cls z
    let taken (z : Zone) (n : Nat) : Prop := n < 256 ∧ zoneOf n = z ∧ d.slot n = .free
    (∀ n, d.returnSlot r = some n ↔
      ∃ before z after, zones = before ++ z :: after ∧ taken z n ∧ (∀ m < n, ¬ taken z m)
        ∧ ∀ y ∈ before, ∀ m, ¬ taken y m)
    ∧ (d.returnSlot r = none ↔ ∀ z ∈ zones, ∀ m, ¬ taken z m)

/-! ### The Transport Controller (R47 to R70) -/

/-- The effective limit is the lesser of the class limit (A 160, B 120, C 90, D 60 cN) and the cap, and with no reel
LOADED the cap, absent where none is set (R48, R69). In RUNNING or WINDING a sample within it lowers the integrator by 1
and moves the slip watch by its table; a sample above it enters LIMITING with the strain-warning persistence 100 ms from
now, the watch INACTIVE, and the integrator 30 higher, or trips (R48, R58, R59, R63). In RELAXING, once the relax timer
has expired, a sample with both tensions below 30 cN resumes the remembered state with the integrator at 0 and the watch
ARMED, applied to the same sample (log 16). Any other sample in RELAXING, and every sample in EMPTY, THREADING, STOPPED
and FAULT, is stored and lowers the integrator by 1, no more (R48, R59, R61, R63). -/
def Obligations.SampleWhileMovingOrAtRest : Prop :=
  ((∀ d : Device, (d.loadedReel = none → d.limit = d.tc.settings.limitCap) ∧ ∀ r, d.loadedReel = some r →
    let classLimit : Nat := match r.cls with | .a => 160 | .b => 120 | .c => 90 | .d => 60
    d.limit = some (match d.tc.settings.limitCap with | some cap => min classLimit cap | none => classLimit))
  ∧ ∀ (feed takeUp : BitVec 12) (limit : Nat) (s : State),
    (s.dev.tc.state = .running ∨ s.dev.tc.state = .winding) → s.dev.limit = some limit →
    let f := feed.toNat
    let t := takeUp.toNat
    let tc := s.dev.tc
    let excess := tc.settings.slipMargin < max f t - min f t
    (f ≤ limit → t ≤ limit → exec (.tensionSample feed takeUp) s = .next { s with
      dev.tc.feed := f, dev.tc.takeUp := t, dev.tc.integrator := tc.integrator - 1
      dev.tc.watch := if excess then (if tc.watch = .armed then .timing else tc.watch)
        else if tc.watch = .timing ∨ tc.watch = .spent then .armed else tc.watch
      dev.tc.slipDue := if excess then (if tc.watch = .armed then some (s.dev.time.runCounter + 100) else tc.slipDue)
        else if tc.watch = .timing then none else tc.slipDue })
    ∧ (limit < max f t →
      let limiting : State := { s with
        dev.tc.state := .limiting
        dev.tc.remembered := some (if tc.state = .running then .running else .winding)
        dev.tc.strainDue := some (s.dev.time.runCounter + 100), dev.tc.watch := .inactive, dev.tc.slipDue := none }
      (tc.integrator + 30 < 30 * tc.settings.faultTime → exec (.tensionSample feed takeUp) s = .next { limiting with
        dev.tc.feed := f, dev.tc.takeUp := t, dev.tc.integrator := tc.integrator + 30 })
      ∧ exec (.tensionSample feed takeUp) s = exec (.tensionSample feed takeUp) limiting))
  ∧ (∀ (feed takeUp : BitVec 12) (s : State),
    let f := feed.toNat
    let t := takeUp.toNat
    let tc := s.dev.tc
    let excess := tc.settings.slipMargin < max f t - min f t
    let stored : State := { s with dev.tc.feed := f, dev.tc.takeUp := t, dev.tc.integrator := tc.integrator - 1 }
    ((tc.state = .empty ∨ tc.state = .threading ∨ tc.state = .stopped ∨ tc.state = .fault) →
      exec (.tensionSample feed takeUp) s = .next stored)
    ∧ (tc.state = .relaxing → (tc.relaxExpired = false ∨ 30 ≤ f ∨ 30 ≤ t) →
      exec (.tensionSample feed takeUp) s = .next stored)
    ∧ ∀ m, tc.state = .relaxing → tc.relaxExpired = true → f < 30 → t < 30 → tc.remembered = some m →
      exec (.tensionSample feed takeUp) s = .next { stored with
        dev.tc.integrator := 0, dev.tc.relaxExpired := false, dev.tc.remembered := none
        dev.tc.state := match m with | .winding => .winding | .running => .running
        dev.tc.watch := if excess then .timing else .armed
        dev.tc.slipDue := if excess then some (s.dev.time.runCounter + 100) else tc.slipDue })

/-- In LIMITING a sample at or below the limit less 10 cN returns to the remembered state, the watch ARMED and applied
to the same sample (log 16); a higher one raises the integrator by 30, and at the top trips: with a retry left TC
counts it and relaxes, or carries out a pending end at once, and with none left it faults with STRAIN (R56, R58 to
R61). -/
def Obligations.SampleWhileLimiting : Prop :=
  ∀ (feed takeUp : BitVec 12) (limit : Nat) (s : State), s.dev.tc.state = .limiting → s.dev.limit = some limit →
    let f := feed.toNat
    let t := takeUp.toNat
    let tc := s.dev.tc
    let now := s.dev.time.runCounter
    let excess := tc.settings.slipMargin < max f t - min f t
    let top := 30 * tc.settings.faultTime
    let retry : Prop := match tc.settings.retryPolicy with | .never => False | .count n => tc.retries < n | .unlimited => True
    (∀ m, tc.remembered = some m → f + 10 ≤ limit → t + 10 ≤ limit → exec (.tensionSample feed takeUp) s = .next { s with
      dev.tc.feed := f, dev.tc.takeUp := t, dev.tc.integrator := tc.integrator - 1
      dev.tc.state := match m with | .winding => .winding | .running => .running
      dev.tc.remembered := none, dev.tc.strainDue := none, dev.tc.strainLine := false
      dev.tc.watch := if excess then .timing else .armed
      dev.tc.slipDue := if excess then some (now + 100) else tc.slipDue })
    ∧ (limit < max f t + 10 →
      (tc.integrator + 30 < top → exec (.tensionSample feed takeUp) s = .next { s with
        dev.tc.feed := f, dev.tc.takeUp := t, dev.tc.integrator := tc.integrator + 30 })
      ∧ (top ≤ tc.integrator + 30 → retry → tc.pendingEnd = none → exec (.tensionSample feed takeUp) s = .next { s with
        dev.tc.feed := f, dev.tc.takeUp := t, dev.tc.integrator := top, dev.tc.retries := min 255 (tc.retries + 1)
        dev.tc.state := .relaxing, dev.tc.strainDue := none, dev.tc.strainLine := false, dev.tc.relaxExpired := false
        dev.tc.relaxDue := some (now + 1000 * tc.settings.relaxTime) })
      ∧ (∀ cause, top ≤ tc.integrator + 30 → retry → tc.pendingEnd = some cause →
        exec (.tensionSample feed takeUp) s = .next { s with
          dev := ({ s.dev with
            tc.feed := f, tc.takeUp := t, tc.integrator := top, tc.retries := min 255 (tc.retries + 1)
            tc.relaxExpired := false, tc.state := .stopped, tc.aligned := false
            tc.pass := none, tc.pendingEnd := none, tc.remembered := none, tc.direction := none, tc.target := none
            tc.strainDue := none, tc.slipDue := none, tc.relaxDue := none, tc.watch := .inactive
            tc.strainLine := false } : Device).post .passEnded s.dev.loadedId
              (match cause with | .hostStop => 1 | .condition => 2 | .pipeline => 3) })
      ∧ (top ≤ tc.integrator + 30 → ¬ retry → exec (.tensionSample feed takeUp) s = .next { s with
        dev := ({ s.dev with tc.feed := f, tc.takeUp := t, tc.integrator := top } : Device).enterFault .strain }))

/-- A rising film-present line starts the threading timer in EMPTY with a reel LOADED, posts THREAD_RESULT NO_REEL in
EMPTY without one, and else is noted only; a falling one empties the transport from THREADING (ABORTED), STOPPED and
FAULT, and faults with BREAK in motion or relaxation (R50, R52). A line that already has the level does nothing (log
6). Entry to FAULT releases the line, drops every deadline, latches the incident of the moment if none is held and
counts it, posts TRANSPORT_FAULT, ends a pass in progress with PASS_ENDED FAULT, and leaves alignment lost and the
cause stored (R57, R65, R67). -/
def Obligations.FilmPresentLineAndFaultEntry : Prop :=
  (∀ s : State,
    let high : Device := { s.dev with tc.filmPresent := true }
    let low : Device := { s.dev with tc.filmPresent := false }
    let tc := s.dev.tc
    (tc.filmPresent = true → exec .filmPresentRises s = .next s)
    ∧ (tc.filmPresent = false →
      (tc.state = .empty → s.dev.loadedReel.isSome → exec .filmPresentRises s = .next { s with
        dev := { high with
          tc.state := .threading, tc.threadingDue := some (s.dev.time.runCounter + 1000 * tc.settings.threadingTime) } })
      ∧ (tc.state = .empty → s.dev.loadedReel = none →
        exec .filmPresentRises s = .next { s with dev := high.post .threadResult 0 1 })
      ∧ (tc.state ≠ .empty → exec .filmPresentRises s = .next { s with dev := high }))
    ∧ (tc.filmPresent = false → exec .filmPresentFalls s = .next s)
    ∧ (tc.filmPresent = true →
      (tc.state = .empty → exec .filmPresentFalls s = .next { s with dev := low })
      ∧ (∀ r, tc.state = .threading → s.dev.loadedReel = some r → exec .filmPresentFalls s = .next { s with
        dev := ({ low with tc.state := .empty, tc.threadingDue := none } : Device).post .threadResult r.id 2 })
      ∧ (tc.state = .stopped → exec .filmPresentFalls s = .next { s with dev := { low with tc.state := .empty } })
      ∧ (tc.state = .fault → exec .filmPresentFalls s = .next { s with
        dev := { low with tc.state := .empty, tc.faultCause := none } })
      ∧ ((tc.state = .running ∨ tc.state = .winding ∨ tc.state = .limiting ∨ tc.state = .relaxing) →
        exec .filmPresentFalls s = .next { s with dev := low.enterFault .break })))
  ∧ (∀ (cause : FaultCause) (r : Reel) (p : Tracker) (d : Device), d.loadedReel = some r → d.pt = some p →
    let incident : Incident :=
      { cause, time := d.time.clock, runCounter := d.time.runCounter, head := p.head
        pass := d.tc.pass.map (·.number), feed := d.tc.feed, takeUp := d.tc.takeUp, integrator := d.tc.integrator
        retries := d.tc.retries, shrinkage := p.latest }
    let faulted : Device := ({ d with
      tc.state := .fault, tc.faultCause := some cause, tc.aligned := false, tc.strainLine := false
      tc.threadingDue := none, tc.relaxDue := none, tc.strainDue := none, tc.slipDue := none, tc.watch := .inactive
      tc.incident := some (d.tc.incident.getD incident), tc.incidentCount := min 255 (d.tc.incidentCount + 1) }
        : Device).post .transportFault cause.code p.head
    (d.tc.pass = none → d.enterFault cause = faulted)
    ∧ (d.tc.pass.isSome → d.enterFault cause = ({ faulted with
      tc.pass := none, tc.pendingEnd := none, tc.remembered := none, tc.direction := none
      tc.target := none } : Device).post .passEnded r.id 4))

/-- Each timer of TC acts at its deadline: the threading timer threads the film or faults with THREAD, the relax timer
lets the wait for low tension begin, the strain-warning persistence asserts the line and posts, the slip persistence
hands excess its finding and then faults or reports (R51, R61, R62, R64). That an expiry command acts late too, and
changes nothing where its deadline is absent or not reached, is the model's choice, log 4: the rule on deadlines, R44,
says only that a deadline acts when the counter reaches it. -/
def Obligations.TransportTimersExpire : Prop :=
  ∀ (r : Reel) (s : State), s.dev.loadedReel = some r →
    let tc := s.dev.tc
    let now := s.dev.time.runCounter
    (∀ due, tc.state = .threading → tc.threadingDue = some due → due ≤ now →
      exec .threadingTimerExpiry s = .next { s with dev :=
        (if tc.filmPresent = true ∧ 20 ≤ tc.feed ∧ tc.feed ≤ 200 ∧ 20 ≤ tc.takeUp ∧ tc.takeUp ≤ 200 then
          ({ s.dev with tc.state := .stopped, tc.aligned := true, tc.threadingDue := none } : Device).post
            .threadResult r.id 0
        else s.dev.enterFault .thread) })
    ∧ (∀ due, tc.state = .relaxing → tc.relaxDue = some due → due ≤ now →
      exec .relaxTimerExpiry s = .next { s with dev.tc.relaxExpired := true, dev.tc.relaxDue := none })
    ∧ (∀ due head, tc.state = .limiting → tc.strainDue = some due → due ≤ now → s.dev.pt.map (·.head) = some head →
      exec .strainWarningPersistenceExpiry s = .next { s with
        dev := ({ s.dev with tc.strainLine := true, tc.strainDue := none } : Device).post .strainWarning r.id head })
    ∧ (∀ due head, tc.watch = .timing → tc.slipDue = some due → due ≤ now → s.dev.pt.map (·.head) = some head →
      let found := ({ s.dev with tc.slipDue := none } : Device).finding
        { kind := .splice, frame := head, severity := 5, detail := max tc.feed tc.takeUp - min tc.feed tc.takeUp
          origin := .transport }
      exec .slipPersistenceExpiry s = .next { s with dev :=
        match tc.settings.slipAction with
        | .stop => found.enterFault .slip
        | .report => ({ found with tc.watch := .spent } : Device).post .slipSeen r.id head })
    ∧ ((∀ due, tc.threadingDue = some due → now < due) → exec .threadingTimerExpiry s = .next s)
    ∧ ((∀ due, tc.relaxDue = some due → now < due) → exec .relaxTimerExpiry s = .next s)
    ∧ ((∀ due, tc.strainDue = some due → now < due) → exec .strainWarningPersistenceExpiry s = .next s)
    ∧ ((∀ due, tc.slipDue = some due → now < due) → exec .slipPersistenceExpiry s = .next s)

/-- RUN_PASS refuses, in order, a transport not STOPPED, an unresolved reference, an end before the start, a lost
alignment at frame 0, and a reel without allowance. Accepted, it spends one pass and starts: RUNNING at the start
frame, or winding forward to it, or backward to it or, alignment lost, past one frame (R16, R17, R53, R54, R63, R72,
R91). -/
def Obligations.RunPassStartsPass : Prop :=
  ∀ (first last : FrameRef) (speed : Byte) (s : State),
    let c : Envelope → Instr := (.runPass · first last speed)
    (s.dev.tc.state ≠ .stopped → s.Gives c .runPass s.dev .wrongState [])
    ∧ (s.dev.tc.state = .stopped →
      (∀ e, s.dev.resolve first = .error e → s.Gives c .runPass s.dev e [])
      ∧ ∀ a, s.dev.resolve first = .ok a →
        (∀ e, s.dev.resolve last = .error e → s.Gives c .runPass s.dev e [])
        ∧ ∀ b (r : Reel) (p : Tracker), s.dev.resolve last = .ok b → s.dev.loadedReel = some r → s.dev.pt = some p →
          (b < a → s.Gives c .runPass s.dev .badValue [])
          ∧ (a ≤ b →
            (s.dev.tc.aligned = false ∧ p.head = 0 → s.Gives c .runPass s.dev .wrongState [])
            ∧ (s.dev.tc.aligned = true ∨ p.head ≠ 0 →
              (r.passes = 0 ∨ (r.cls = .d ∧ r.permit = false) → s.Gives c .runPass s.dev .condition [])
              ∧ (1 ≤ r.passes → (r.cls ≠ .d ∨ r.permit = true) →
                let stored : Nat := if speed.toNat < 1 then 1 else if 24 < speed.toNat then 24 else speed.toNat
                let number := min 65535 (r.passTotal + 1)
                let back : Bool := !s.dev.tc.aligned || decide (a < p.head)
                let target := if s.dev.tc.aligned then a else min a (p.head - 1)
                let run : Bool := s.dev.tc.aligned && decide (p.head = a)
                s.Gives c .runPass
                  { s.dev.setReel r.id (fun x => { x with passes := x.passes - 1, passTotal := min 65535 (x.passTotal + 1) })
                    with
                    tc.pass := some { first := a, last := b, speed := stored, number }
                    tc.retries := 0, tc.pendingEnd := none, tc.watch := .armed
                    tc.state := if run then .running else .winding
                    tc.direction := if run then none else some (if back then .backward else .forward)
                    tc.target := if run then none else some target
                    capstan := 0, cu.gaps := 0
                    pt := some { p with last := none, count := if back then 0 else p.count } }
                  (if stored = speed.toNat then .ok else .okClamped)
                  (u16 a ++ u16 b ++ u8 stored ++ u16 number)))))

/-- SET_TRANSPORT replaces all the settings, each continuous one brought into range, and lowers the integrator to the
new top; a policy or action outside its enumeration changes nothing (R49). CLEAR_INCIDENT empties record and count
(R68). -/
def Obligations.SetTransportReplacesSettings : Prop :=
  (∀ (op : TransportOperands) (s : State),
    RetryPolicy.ofCode op.retryPolicy.toNat = none ∨ SlipAction.ofCode op.slipAction.toNat = none →
    s.Gives (.setTransport · op) .setTransport s.dev .badValue [])
  ∧ (∀ (op : TransportOperands) (policy : RetryPolicy) (action : SlipAction) (s : State),
    RetryPolicy.ofCode op.retryPolicy.toNat = some policy → SlipAction.ofCode op.slipAction.toNat = some action →
    let range (lo hi n : Nat) : Nat := if n < lo then lo else if hi < n then hi else n
    let stored : TransportSettings :=
      { threadingTime := range 1 30 op.threadingTime.toNat, faultTime := range 10 2000 op.faultTime.toNat
        retryPolicy := policy, relaxTime := range 1 600 op.relaxTime.toNat
        slipMargin := range 20 400 op.slipMargin.toNat, slipAction := action
        limitCap := if op.limitCap.toNat = 0 then none else some (range 20 400 op.limitCap.toNat) }
    let asGiven := stored.threadingTime = op.threadingTime.toNat ∧ stored.faultTime = op.faultTime.toNat
      ∧ stored.relaxTime = op.relaxTime.toNat ∧ stored.slipMargin = op.slipMargin.toNat
      ∧ stored.limitCap.getD 0 = op.limitCap.toNat
    s.Gives (.setTransport · op) .setTransport
      { s.dev with tc.settings := stored, tc.integrator := min s.dev.tc.integrator (30 * stored.faultTime) }
      (if asGiven then .ok else .okClamped) stored.bytes)
  ∧ ∀ s : State, s.Gives (.clearIncident ·) .clearIncident { s.dev with tc.incident := none, tc.incidentCount := 0 } .ok []

/-- STOP is refused in EMPTY, THREADING and FAULT, does nothing in STOPPED, asks for the end at the next boundary in
motion unless one is asked for, and ends the pass at once in RELAXING, alignment lost (R56, R57). An end asked for by
any cause, HOST_STOP, CONDITION or PIPELINE, does nothing in EMPTY, THREADING, STOPPED and FAULT, where no pass is in
progress; in RUNNING, WINDING and LIMITING it is kept unless one is kept already; in RELAXING it ends the pass at once,
STOPPED with alignment lost and its cause in PASS_ENDED (R56, R57). RELEASE leaves FAULT by the first case that applies:
EMPTY without film, STILL_ACTIVE while a STRAIN or SLIP fault sees 30 cN or more, THREADING for a THREAD fault, else
STOPPED; in any other state it is refused (R66). That an end in RELAXING leaves relax expired as it was is the model's
choice (log 17). -/
def Obligations.StopAndReleaseMoveTheTransport : Prop :=
  (∀ s : State,
    let tc := s.dev.tc
    (tc.state = .empty ∨ tc.state = .threading ∨ tc.state = .fault → s.Gives (.stop ·) .stop s.dev .wrongState [])
    ∧ (tc.state = .stopped → s.Gives (.stop ·) .stop s.dev .ok [])
    ∧ (tc.state = .running ∨ tc.state = .winding ∨ tc.state = .limiting →
      s.Gives (.stop ·) .stop { s.dev with tc.pendingEnd := some (tc.pendingEnd.getD .hostStop) } .ok [])
    ∧ (tc.state = .relaxing → s.Gives (.stop ·) .stop
      (({ s.dev with
        tc.state := .stopped, tc.aligned := false, tc.pass := none, tc.pendingEnd := none, tc.remembered := none
        tc.direction := none, tc.target := none, tc.strainDue := none, tc.slipDue := none, tc.relaxDue := none
        tc.watch := .inactive, tc.strainLine := false } : Device).post .passEnded s.dev.loadedId 1) .ok []))
  ∧ (∀ (cause : PendingEnd) (d : Device),
    (d.tc.state = .empty ∨ d.tc.state = .threading ∨ d.tc.state = .stopped ∨ d.tc.state = .fault →
      d.askEnd cause = d)
    ∧ (d.tc.state = .running ∨ d.tc.state = .winding ∨ d.tc.state = .limiting →
      d.askEnd cause = { d with tc.pendingEnd := some (d.tc.pendingEnd.getD cause) })
    ∧ (d.tc.state = .relaxing → d.askEnd cause =
      ({ d with
        tc.state := .stopped, tc.aligned := false, tc.pass := none, tc.pendingEnd := none, tc.remembered := none
        tc.direction := none, tc.target := none, tc.strainDue := none, tc.slipDue := none, tc.relaxDue := none
        tc.watch := .inactive, tc.strainLine := false } : Device).post .passEnded d.loadedId
          (match cause with | .hostStop => 1 | .condition => 2 | .pipeline => 3)))
  ∧ (∀ s : State,
    let tc := s.dev.tc
    let active := (tc.faultCause = some .strain ∨ tc.faultCause = some .slip) ∧ (30 ≤ tc.feed ∨ 30 ≤ tc.takeUp)
    (tc.state ≠ .fault → s.Gives (.release ·) .release s.dev .wrongState [])
    ∧ (tc.state = .fault → tc.filmPresent = false →
      s.Gives (.release ·) .release { s.dev with tc.faultCause := none, tc.state := .empty } .ok [])
    ∧ (tc.state = .fault → tc.filmPresent = true →
      (active → s.Gives (.release ·) .release s.dev .stillActive [])
      ∧ (tc.faultCause = some .thread → s.Gives (.release ·) .release
        { s.dev with
          tc.faultCause := none, tc.state := .threading
          tc.threadingDue := some (s.dev.time.runCounter + 1000 * tc.settings.threadingTime) } .ok [])
      ∧ (¬ active → tc.faultCause ≠ some .thread →
        s.Gives (.release ·) .release { s.dev with tc.faultCause := none, tc.state := .stopped } .ok [])))

/-! ### The Perforation Tracker (R71 to R85) -/

/-- An edge is ignored at rest. In forward motion the first after p_last is unset is counted; a bounce changes nothing
but the latched capstan count (log 8); a spurious edge is a finding; a good one refines the pitch when within a
sixteenth of it and is counted; a gap is found, raises TRACK above 8, and is counted m + 1 times. A backward edge is
counted (R72 to R80). -/
def Obligations.PerforationEdgeIsClassified : Prop :=
  ∀ (position : BitVec 32) (s : State),
    let tc := s.dev.tc
    (s.dev.pt = none → exec (.perforationEdge position) s = .next s)
    ∧ ((tc.state = .empty ∨ tc.state = .threading ∨ tc.state = .stopped ∨ tc.state = .relaxing ∨ tc.state = .fault) →
      exec (.perforationEdge position) s = .next s)
    ∧ ∀ p, s.dev.pt = some p →
      let latched : Device := { s.dev with capstan := position }
      let backward := (tc.state = .winding ∨ (tc.state = .limiting ∧ tc.remembered = some .winding))
        ∧ tc.direction = some .backward
      let forward := tc.state = .running ∨ (tc.state = .limiting ∧ tc.remembered = some .running)
        ∨ ((tc.state = .winding ∨ (tc.state = .limiting ∧ tc.remembered = some .winding))
          ∧ tc.direction = some .forward)
      (backward → exec (.perforationEdge position) s = .next { s with dev := latched.countBackward })
      ∧ (forward →
        (p.last = none → exec (.perforationEdge position) s = .next { s with
          dev := ({ latched with pt := some { p with last := some position } } : Device).countForward })
        ∧ ∀ last, p.last = some last →
          let distance := (position - last).toInt
          let pitch : Nat := p.p16 / 16
          let d : Nat := distance.toNat
          (distance ≤ 0 ∨ 4 * distance < pitch → exec (.perforationEdge position) s = .next { s with dev := latched })
          ∧ (0 < distance → (pitch : Int) ≤ 4 * distance → 4 * distance < 3 * pitch →
            let torn : Finding := { kind := .perfDamage, frame := p.head, severity := 2, detail := 0, origin := .tracker }
            exec (.perforationEdge position) s = .next { s with dev := latched.finding torn })
          ∧ (0 < distance → 3 * (pitch : Int) ≤ 4 * distance → 4 * distance ≤ 5 * pitch →
            (¬ (15 * pitch ≤ 16 * d ∧ 16 * d ≤ 17 * pitch) → exec (.perforationEdge position) s = .next { s with
              dev := ({ latched with pt := some { p with last := some position } } : Device).countForward })
            ∧ (15 * pitch ≤ 16 * d → 16 * d ≤ 17 * pitch →
              let nominal : Int := match p.gauge with | .g35 => 76000 | .g16 => 121920
              let low : Int := match p.gauge with | .g35 => 68407 | .g16 => 109740
              let high : Int := match p.gauge with | .g35 => 83600 | .g16 => 134112
              let p16 := max low (min high (p.p16 + (16 * d - p.p16 : Int).tdiv 16))
              let shrinkage := (max 0 (min 999 (((nominal - p16) * 10000).tdiv nominal))).toNat
              let refined : Tracker := { p with
                last := some position, p16 := p16.toNat, latest := shrinkage, peak := max p.peak shrinkage }
              let measured : Device := { latched with pt := some refined }
              exec (.perforationEdge position) s = .next { s with
                dev := (if p.peak < shrinkage then measured.escalate shrinkage else measured).countForward }))
          ∧ (0 < distance → 5 * (pitch : Int) < 4 * distance →
            let m := (2 * d + pitch) / (2 * pitch) - 1
            let found := if m = 0 then latched else latched.finding
              { kind := .perfMissing, frame := p.head, severity := if 5 ≤ m then 7 else 2 + m, detail := min m 65535
                origin := .tracker }
            let tracked := if 8 < m then found.enterFault .track else found
            let moved : Device := { tracked with pt := tracked.pt.map fun x => { x with last := some position } }
            exec (.perforationEdge position) s = .next { s with dev := Device.countMany (m + 1) moved }))

/-- Forward, each perforation raises the count; the k-th completes the frame, which is handed to CU while TC captures,
and TC takes the boundary; past the last frame only the count returns to 0. Backward, the k-th lowers the head, above 0,
and TC takes the boundary (R79, R80). A gap's perforations are counted one after another. At a boundary a winding leg
that has reached its target ends: backward with alignment good, and then, as at the end of a forward leg, RUNNING at the
start frame, or winding on forward to it (R54); at the crawl LIMITING is kept and RUNNING remembered (R58). Then the
pass ends: END when the end frame has just been handed to CU, else the pending cause (R55 to R57). With no pass in
progress, as after a TRACK fault or an end at an earlier frame of the same gap edge, a boundary changes nothing (R55,
R78, R79). That the leg ends before the pass at one and the same boundary is the model's choice (log 18). -/
def Obligations.FramesCompleteAndEndLegsAndPasses : Prop :=
  (∀ (p : Tracker) (d : Device), d.pt = some p →
    let k : Nat := match p.gauge with | .g35 => 4 | .g16 => 1
    let capturing := d.tc.state = .running ∨ (d.tc.state = .limiting ∧ d.tc.remembered = some .running)
    (p.count + 1 < k → d.countForward = { d with pt := some { p with count := p.count + 1 } }
      ∧ d.countBackward = { d with pt := some { p with count := p.count + 1 } })
    ∧ (k ≤ p.count + 1 →
      (p.length ≤ p.head → d.countForward = { d with pt := some { p with count := 0 } })
      ∧ (p.head < p.length →
        let done : Device := { d with pt := some { p with count := 0, head := p.head + 1 } }
        (capturing → d.countForward = (done.handFrame p.head).boundary (some p.head))
        ∧ (¬ capturing → d.countForward = done.boundary none))
      ∧ (p.head = 0 → d.countBackward = { d with pt := some { p with count := 0 } })
      ∧ (0 < p.head →
        d.countBackward = ({ d with pt := some { p with count := 0, head := p.head - 1 } } : Device).boundary none))
    ∧ ∀ n, Device.countMany (n + 1) d = Device.countMany n d.countForward)
  ∧ (∀ (handed : Option Nat) (pass : PassRecord) (r : Reel) (p : Tracker) (d : Device),
    d.tc.pass = some pass → d.loadedReel = some r → d.pt = some p →
    let winding := d.tc.state = .winding ∨ (d.tc.state = .limiting ∧ d.tc.remembered = some .winding)
    let ended (d : Device) (cause : Nat) : Device :=
      ({ d with
        tc.state := .stopped, tc.pass := none, tc.pendingEnd := none, tc.remembered := none, tc.direction := none
        tc.target := none, tc.strainDue := none, tc.slipDue := none, tc.relaxDue := none, tc.watch := .inactive
        tc.strainLine := false } : Device).post .passEnded r.id cause
    let passEnd (d : Device) : Device :=
      if handed = some pass.last then ended d 0
      else match d.tc.pendingEnd with
        | some .hostStop => ended d 1
        | some .condition => ended d 2
        | some .pipeline => ended d 3
        | none => d
    let running : Device :=
      if d.tc.state = .limiting then
        { d with tc.remembered := some .running, tc.direction := none, tc.target := none }
      else { d with tc.state := .running, tc.direction := none, tc.target := none }
    (¬ winding ∨ d.tc.target ≠ some p.head → d.boundary handed = passEnd d)
    ∧ (winding → d.tc.target = some p.head →
      (d.tc.direction = some .forward → d.boundary handed = passEnd running)
      ∧ (d.tc.direction = some .backward →
        (p.head = pass.first → d.boundary handed = passEnd { running with tc.aligned := true })
        ∧ (p.head ≠ pass.first → d.boundary handed = passEnd { d with
          tc.aligned := true, tc.direction := some .forward, tc.target := some pass.first }))))
  ∧ (∀ (handed : Option Nat) (d : Device), d.tc.pass = none →
    (d.tc.state = .empty ∨ d.tc.state = .threading ∨ d.tc.state = .stopped ∨ d.tc.state = .fault ∨ d.tc.target = none) →
    d.boundary handed = d)

/-- A frame reference names its base, 0, the head frame or a mark, plus its signed value, exactly; it is WRONG_STATE
with no reel LOADED, and BAD_VALUE for another mode, an unset mark, or a frame outside the reel (R81). SET_HEAD, in
STOPPED only, sets the head frame, clears the count and p_last, and makes alignment good (R82). SET_MARK sets the
selected mark (R83). A reference that does not resolve gives its status and changes nothing. That a presence byte
precedes the head frame in the reply of SET_HEAD, where it is always present, is the model's reading, log 13. -/
def Obligations.FrameReferencesHeadAndMarks : Prop :=
  (∀ (ref : FrameRef) (d : Device),
    (d.loadedReel = none → d.resolve ref = .error .wrongState)
    ∧ ∀ (r : Reel) (p : Tracker), d.loadedReel = some r → d.pt = some p →
      (3 < ref.mode.toNat → d.resolve ref = .error .badValue)
      ∧ (ref.mode = 2 ∧ p.markA = none ∨ ref.mode = 3 ∧ p.markB = none → d.resolve ref = .error .badValue)
      ∧ ∀ base : Nat,
        (ref.mode = 0 ∧ base = 0 ∨ ref.mode = 1 ∧ base = p.head ∨ ref.mode = 2 ∧ p.markA = some base
          ∨ ref.mode = 3 ∧ p.markB = some base) →
        (∀ frame : Nat, (base : Int) + ref.value.toInt = frame → frame < r.length → d.resolve ref = .ok frame)
        ∧ ((base : Int) + ref.value.toInt < 0 ∨ (r.length : Int) ≤ base + ref.value.toInt →
          d.resolve ref = .error .badValue))
  ∧ (∀ (ref : FrameRef) (s : State),
    (s.dev.tc.state ≠ .stopped → s.Gives (.setHead · ref) .setHead s.dev .wrongState [])
    ∧ (s.dev.tc.state = .stopped → ∀ e, s.dev.resolve ref = .error e → s.Gives (.setHead · ref) .setHead s.dev e [])
    ∧ (∀ mark : Byte, 1 < mark.toNat → s.Gives (.setMark · mark ref) .setMark s.dev .badValue [])
    ∧ (∀ (mark : Byte) (e : Status), mark.toNat ≤ 1 → s.dev.resolve ref = .error e →
      s.Gives (.setMark · mark ref) .setMark s.dev e [])
    ∧ ∀ (frame : Nat) (p : Tracker), s.dev.resolve ref = .ok frame → s.dev.pt = some p →
      (s.dev.tc.state = .stopped → s.Gives (.setHead · ref) .setHead
        { s.dev with tc.aligned := true, pt := some { p with head := frame, count := 0, last := none } } .ok
        (u8 1 ++ u16 frame))
      ∧ s.Gives (.setMark · 0 ref) .setMark { s.dev with pt := some { p with markA := some frame } } .ok (u16 frame)
      ∧ s.Gives (.setMark · 1 ref) .setMark { s.dev with pt := some { p with markB := some frame } } .ok (u16 frame))

/-! ### The Capture Unit (R86 to R102) -/

/-- A completed frame finds fewer than 8 orders: CU issues one with the first tag from the counter on that no order
holds, and counts it; the sender begins its CAPTURE_ORDER frame, or lets it wait behind the frame in progress. With 8
held CU records an overflow gap, counts it, and at the eighth gap in a row asks for the end of the pass (R88 to R92,
R179, R184, R185). The expiry of an order's deadline, reached, retires it as lost: counted, its frame a scan gap,
CAPTURE_LOST posted, the gaps in a row one more, and at 8 the end of the pass asked for (R91, R99). That an expiry
command acts late too, and does nothing where the deadline is not reached or no order holds the tag, is the model's
choice (log 4). SET_CAPTURE stores its three values brought into range (R87). -/
def Obligations.OrdersAreIssuedAndLost : Prop :=
  (∀ (frame : Nat) (d : Device),
    (∀ (pass : PassRecord) (k : Nat), d.cu.orders.length < 8 → d.tc.pass = some pass →
      let tag : Byte := d.cu.tagCounter + BitVec.ofNat 8 k
      (∀ j < k, ∃ o ∈ d.cu.orders, o.tag = d.cu.tagCounter + BitVec.ofNat 8 j) → (∀ o ∈ d.cu.orders, o.tag ≠ tag) →
      let order : Order :=
        { tag, pass := pass.number, frame, shot := d.gu.shotIndex frame, grade := d.gradeAt frame, issued := d.time.clock
          deadline := d.time.runCounter + d.cu.timeout }
      let issued (d : Device) : Device :=
        ({ d with cu.orders := d.cu.orders ++ [order], cu.tagCounter := tag + 1 } : Device).count .orders
      (d.pipe.sending = none → d.pipe.waiting = [] →
        d.handFrame frame = issued { d with pipe.sending := some (captureOrderChars order) })
      ∧ (d.pipe.sending.isSome → d.handFrame frame = issued { d with pipe.waiting := d.pipe.waiting ++ [order] }))
    ∧ (8 ≤ d.cu.orders.length →
      let gap : Finding := { kind := .scanGap, frame, severity := 3, detail := 1, origin := .pipeline }
      let lost := (d.finding gap).count .overflowGaps
      (d.cu.gaps < 7 → d.handFrame frame = { lost with cu.gaps := d.cu.gaps + 1 })
      ∧ (7 ≤ d.cu.gaps → d.handFrame frame = ({ lost with cu.gaps := 0 } : Device).askEnd .pipeline)))
  ∧ ((∀ (tag : Byte) (before after : List Order) (o : Order) (r : Reel) (s : State), s.dev.loadedReel = some r →
    s.dev.cu.orders = before ++ o :: after → (∀ x ∈ before, x.tag ≠ tag) → o.tag = tag →
    (s.dev.time.runCounter < o.deadline → exec (.reportDeadlineExpiry tag) s = .next s)
    ∧ (o.deadline ≤ s.dev.time.runCounter →
      let gap : Finding := { kind := .scanGap, frame := o.frame, severity := 3, detail := 2, origin := .pipeline }
      let retired : Device := { s.dev with cu.orders := before ++ after }
      let lost := ((retired.count .lostOrders).finding gap).post .captureLost r.id o.frame
      (s.dev.cu.gaps < 7 → exec (.reportDeadlineExpiry tag) s
        = .next { s with dev := { lost with cu.gaps := s.dev.cu.gaps + 1 } })
      ∧ (7 ≤ s.dev.cu.gaps → exec (.reportDeadlineExpiry tag) s
        = .next { s with dev := ({ lost with cu.gaps := 0 } : Device).askEnd .pipeline })))
  ∧ (∀ (tag : Byte) (s : State), (∀ x ∈ s.dev.cu.orders, x.tag ≠ tag) → exec (.reportDeadlineExpiry tag) s = .next s)
  ∧ ∀ (timeout dust scratch : BitVec 16) (s : State),
    let t : Nat := if timeout.toNat < 20 then 20 else if 2000 < timeout.toNat then 2000 else timeout.toNat
    let x : Nat := if dust.toNat = 0 then 1 else dust.toNat
    let y : Nat := if scratch.toNat = 0 then 1 else scratch.toNat
    s.Gives (.setCapture · timeout dust scratch) .setCapture
      { s.dev with cu.timeout := t, cu.dustLimit := x, cu.scratchLimit := y }
      (if t = timeout.toNat ∧ x = dust.toNat ∧ y = scratch.toNat then .ok else .okClamped) (u16 t ++ u16 x ++ u16 y))

/-- A report whose tag and frame an order carries retires it and has its four effects, in order: findings, rescan
resolution, statistics of a frame not excluded, the clip check by the order's grade (R93, R95 to R98, R154). Any other
report is stale: counted and noticed (R94). -/
def Obligations.ReportRetiresItsOrder : Prop :=
  (∀ (r : FrameReport) (d : Device), (∀ o ∈ d.cu.orders, ¬ (o.tag = r.tag ∧ o.frame = r.frame)) →
    d.report r = (d.count .staleReports).post .staleReport 0 r.frame)
  ∧ ∀ (r : FrameReport) (before after : List Order) (o : Order) (d : Device),
    d.cu.orders = before ++ o :: after → (∀ x ∈ before, ¬ (x.tag = r.tag ∧ x.frame = r.frame)) →
    o.tag = r.tag → o.frame = r.frame →
    let retired : Device := { d with cu.orders := before ++ after, cu.gaps := 0 }
    let dust : Finding :=
      { kind := .dust, frame := o.frame, severity := min 7 (1 + r.dust / d.cu.dustLimit), detail := r.dust
        origin := .pipeline }
    let scratch : Finding :=
      { kind := .scratch, frame := o.frame, severity := min 7 (1 + r.scratch / d.cu.scratchLimit), detail := r.scratch
        origin := .pipeline }
    let focus : Finding := { kind := .scanGap, frame := o.frame, severity := 3, detail := 3, origin := .pipeline }
    let d1 := if d.cu.dustLimit ≤ r.dust then retired.finding dust else retired
    let d2 := if d.cu.scratchLimit ≤ r.scratch then d1.finding scratch else d1
    let d3 : Device :=
      if r.focusFail then d2.finding focus
      else { d2 with dm.records := d2.dm.records.map fun x =>
        if x.kind = .scanGap ∧ x.state = .found ∧ x.frame ≤ o.frame ∧ o.frame < x.frame + x.extent then
          { x with state := .repaired } else x }
    let excluded := (∃ x ∈ d3.dm.records, x.frame ≤ o.frame ∧ o.frame < x.frame + x.extent ∧ x.state ≠ .waived
        ∧ x.state ≠ .repaired ∧ 4 ≤ x.severity)
      ∨ r.exposureClip = true ∨ r.focusFail = true ∨ d3.gu.excludes o.frame = true
    let code (g : ChannelGrade) (density : Nat) : Prop := outputCode g density ≤ 31 ∨ 992 ≤ outputCode g density
    let clips := code o.grade.red r.mean.red ∨ code o.grade.green r.mean.green ∨ code o.grade.blue r.mean.blue
    ∀ d4 : Device, (excluded → d4 = d3) → (¬ excluded → d4 = d3.takeStatistics r.mean r.base) →
      (¬ clips → d.report r = d4)
      ∧ (clips → d.report r = (d4.setShots (d4.gu.shots.modify (d4.gu.shotIndex o.frame)
        fun x => { x with clipRisk := min 65535 (x.clipRisk + 1) })).post .clipRisk (d4.gu.shotIndex o.frame) o.frame)

/-! ### The Defect Map (R103 to R119) -/

/-- A finding of the LOADED reel is recorded; one with no reel LOADED or outside the reel is discarded (R106). Recorded,
it is merged into the lowest record of its kind, FOUND or QUEUED, that covers its frame; else, for a kind that extends,
joined to the lowest that ends just before it; else made a new record of the next id; else, the map full, counted and
noticed (R107 to R109). The id of the record that took it goes with the map that results, and none where the map was
full (R112). -/
def Obligations.FindingsMergeExtendOrAppend : Prop :=
  ∀ (f : Finding) (d : Device),
    (d.loadedReel = none → d.finding f = d)
    ∧ (∀ r, d.loadedReel = some r → d.finding f = if f.frame < r.length then (d.record f).1 else d)
    ∧ (let open_ (x : Defect) : Prop := x.kind = f.kind ∧ (x.state = .found ∨ ∃ p, x.state = .queued p)
      let merges (x : Defect) : Prop := open_ x ∧ x.frame ≤ f.frame ∧ f.frame < x.frame + x.extent
      let grows (x : Defect) : Prop :=
        (f.kind = .perfDamage ∨ f.kind = .warp ∨ f.kind = .dust ∨ f.kind = .scratch) ∧ open_ x ∧ 1 ≤ f.frame
          ∧ x.frame + x.extent = f.frame ∧ x.extent < 255
      (∀ before x after, d.dm.records = before ++ x :: after → (∀ y ∈ before, ¬ merges y) → merges x →
        d.record f = ((d.setDefect x.id fun y =>
          { y with severity := max y.severity f.severity, detail := max y.detail f.detail }).autoQueue x.id, some x.id))
      ∧ ((∀ y ∈ d.dm.records, ¬ merges y) →
        (∀ before x after, d.dm.records = before ++ x :: after → (∀ y ∈ before, ¬ grows y) → grows x →
          d.record f = ((d.setDefect x.id fun y =>
            { y with
              extent := y.extent + 1, severity := max y.severity f.severity
              detail := max y.detail f.detail }).autoQueue x.id, some x.id))
        ∧ ((∀ y ∈ d.dm.records, ¬ grows y) →
          let id := d.dm.records.length
          let new : Defect :=
            { id, frame := f.frame, extent := 1, kind := f.kind, severity := f.severity
              state := .found, origin := f.origin, detail := f.detail, found := d.time.clock, refused := false }
          (id < 1024 →
            d.record f = (({ d with dm.records := d.dm.records ++ [new] } : Device).autoQueue id, some id))
          ∧ (1024 ≤ id → d.record f = ((d.count .mapOverflow).post .mapFull 0 f.frame, none)))))

/-- The auto-queue test enqueues a FOUND record at or above its kind's threshold, 8 being none, by the priority of its
severity. An enqueue is refused at occupancy 160, 176, 188 or 192 for P0 to P3: the record stays FOUND, refused,
counted and noticed; else it joins its queue's tail (R110, R122, R123). -/
def Obligations.EnqueueAcceptsBelowItsLevel : Prop :=
  (∀ (p : Priority) (r : Defect) (d : Device),
    let level : Nat := match p with | .p0 => 160 | .p1 => 176 | .p2 => 188 | .p3 => 192
    let held := d.rq.queues.p0.length + d.rq.queues.p1.length + d.rq.queues.p2.length + d.rq.queues.p3.length
      + (d.rq.stations.toList.filter (·.state.isWorking)).length
    (held < level → d.enqueue p r =
      ({ d with rq.queues := d.rq.queues.set p (d.rq.queues.get p ++ [⟨r.id, r.kind⟩]) } : Device).setDefect r.id
        fun x => { x with state := .queued p, refused := false })
    ∧ (level ≤ held → d.enqueue p r =
      ((d.setDefect r.id fun x => { x with refused := true }).count (.refusal p)).post .queueRefused p.code r.id))
  ∧ ∀ (id : Nat) (r : Defect) (d : Device), d.findDefect id = some r →
    let threshold := d.dm.thresholds.get r.kind
    let p : Priority :=
      if r.severity ≤ 1 then .p0 else if r.severity ≤ 3 then .p1 else if r.severity ≤ 5 then .p2 else .p3
    (r.state = .found ∧ threshold < 8 ∧ threshold ≤ r.severity → d.autoQueue id = d.enqueue p r)
    ∧ (¬ (r.state = .found ∧ threshold < 8 ∧ threshold ≤ r.severity) → d.autoQueue id = d)

/-- ADD_DEFECT refuses, in order, no reel, a value out of range, an unresolved reference, and a run past the reel's
end. Accepted, it records one HOST finding at each frame of the run in turn, and answers the first and last record and
the number lost, FULL when there are any (R112). -/
def Obligations.AddDefectRecordsRun : Prop :=
  (∀ (f : Finding) (n : Nat) (d : Device), d.addRun f 0 = (d, []) ∧ d.addRun f (n + 1) =
    (((d.record f).1.addRun { f with frame := f.frame + 1 } n).1,
      (d.record f).2 :: ((d.record f).1.addRun { f with frame := f.frame + 1 } n).2))
  ∧ ∀ (op : AddDefectOperands) (s : State),
    let c : Envelope → Instr := (.addDefect · op)
    (s.dev.loadedReel = none → s.Gives c .addDefect s.dev .wrongState [])
    ∧ ∀ r, s.dev.loadedReel = some r →
      (DefectKind.ofCode op.kind.toNat = none ∨ 7 < op.severity.toNat ∨ op.count = 0 →
        s.Gives c .addDefect s.dev .badValue [])
      ∧ ∀ kind, DefectKind.ofCode op.kind.toNat = some kind → op.severity.toNat ≤ 7 → op.count ≠ 0 →
        (∀ e, s.dev.resolve op.ref = .error e → s.Gives c .addDefect s.dev e [])
        ∧ ∀ frame, s.dev.resolve op.ref = .ok frame →
          (r.length < frame + op.count.toNat → s.Gives c .addDefect s.dev .badValue [])
          ∧ (frame + op.count.toNat ≤ r.length →
            let run := s.dev.addRun
              { kind, frame, severity := op.severity.toNat, detail := op.detail.toNat, origin := .host } op.count.toNat
            let lost := run.2.countP (·.isNone)
            ∀ first last, run.2.head? = some first → run.2.getLast? = some last →
              s.Gives c .addDefect run.1 (if lost = 0 then .ok else .full) (u16? first ++ u16? last ++ u8 lost))

/-- QUEUE_DEFECT enqueues a FOUND record that is no SCAN_GAP at the priority given or derived, FULL when RQ refuses it;
WAIVE_DEFECT sets a FOUND or QUEUED record aside; REQUEUE_DEFECT moves a QUEUED record to a tail. Each other state is
refused by its table (R113 to R115). SET_DEFECT_POLICY replaces one kind's threshold, 0 to 8, but never lets SCAN_GAP be
queued, and carries all eight (R111), in the order of the kind codes and in one byte each, which are the model's
choices, logs 32 and 35. -/
def Obligations.DefectRequestsFollowTheirTables : Prop :=
  (∀ (id : BitVec 16) (r : Defect) (s : State), s.dev.NamesDefect id r →
    let dropped (p : Priority) : Device :=
      { s.dev with rq.queues := s.dev.rq.queues.set p ((s.dev.rq.queues.get p).eraseP fun e => decide (e.defect = r.id)) }
    (∀ priority : Byte,
      (4 < priority.toNat → s.Gives (.queueDefect · id priority) .queueDefect s.dev .badValue [])
      ∧ (r.kind = .scanGap → s.Gives (.queueDefect · id priority) .queueDefect s.dev .badValue [])
      ∧ (priority.toNat ≤ 4 → r.kind ≠ .scanGap → r.state ≠ .found →
        s.Gives (.queueDefect · id priority) .queueDefect s.dev .wrongState (u8 r.state.code))
      ∧ ∀ p, (priority.toNat = p.code ∨ (priority = 4 ∧ p =
          (if r.severity ≤ 1 then .p0 else if r.severity ≤ 3 then .p1 else if r.severity ≤ 5 then .p2 else .p3))) →
        r.kind ≠ .scanGap → r.state = .found →
        s.Gives (.queueDefect · id priority) .queueDefect (s.dev.enqueue p r)
          (if s.dev.accepts p then .ok else .full)
          (if s.dev.accepts p then ({ r with state := .queued p, refused := false } : Defect).bytes
            else ({ r with refused := true } : Defect).bytes))
    ∧ (r.state = .found → s.Gives (.waiveDefect · id) .waiveDefect
        (s.dev.setDefect r.id fun x => { x with state := .waived }) .ok [])
    ∧ (∀ p, r.state = .queued p → s.Gives (.waiveDefect · id) .waiveDefect
        ((dropped p).setDefect r.id fun x => { x with state := .waived }) .ok [])
    ∧ (∀ p station, r.state = .assigned p station → s.Gives (.waiveDefect · id) .waiveDefect s.dev .busy (u8 station))
    ∧ (r.state = .repaired ∨ r.state = .waived ∨ r.state = .deferred →
        s.Gives (.waiveDefect · id) .waiveDefect s.dev .wrongState [])
    ∧ (∀ priority : Byte, 3 < priority.toNat →
        s.Gives (.requeueDefect · id priority) .requeueDefect s.dev .badValue [])
    ∧ ∀ p : Priority,
      let priority : Byte := BitVec.ofNat 8 p.code
      (∀ old, r.state = .queued old →
        let moved := dropped old
        s.Gives (.requeueDefect · id priority) .requeueDefect
          (({ moved with rq.queues := moved.rq.queues.set p (moved.rq.queues.get p ++ [⟨r.id, r.kind⟩]) }
            : Device).setDefect r.id fun x => { x with state := .queued p }) .ok
          ({ r with state := .queued p } : Defect).bytes)
      ∧ (∀ q station, r.state = .assigned q station →
        s.Gives (.requeueDefect · id priority) .requeueDefect s.dev .busy (u8 station))
      ∧ (r.state = .found ∨ r.state = .repaired ∨ r.state = .waived ∨ r.state = .deferred →
        s.Gives (.requeueDefect · id priority) .requeueDefect s.dev .wrongState []))
  ∧ (∀ (kind threshold : Byte) (s : State),
    (7 < kind.toNat ∨ 8 < threshold.toNat ∨ (kind = 7 ∧ threshold.toNat < 8) →
      s.Gives (.setDefectPolicy · kind threshold) .setDefectPolicy s.dev .badValue [])
    ∧ ∀ k, DefectKind.ofCode kind.toNat = some k → threshold.toNat ≤ 8 → (k = .scanGap → threshold.toNat = 8) →
      let t := s.dev.dm.thresholds.set k threshold.toNat
      s.Gives (.setDefectPolicy · kind threshold) .setDefectPolicy { s.dev with dm.thresholds := t } .ok
        (u8 t.perfDamage ++ u8 t.perfMissing ++ u8 t.splice ++ u8 t.tear ++ u8 t.warp ++ u8 t.dust ++ u8 t.scratch
          ++ u8 t.scanGap))

/-! ### The Repair Queue Manager (R120 to R139) -/

/-- SET_STATION replaces mask and flag; a disabled WORKING station's defect goes back to the front of its queue.
TAKE_WORK gives an IDLE station the front-most entry its mask allows, P3 first; WORKING is BUSY, OFFLINE is WRONG_STATE
(R124 to R126). That the reply of SET_STATION sends an absent id where no defect was returned, and the allow mask as one
byte, is the model's choice, log 13: the rule carries the id only when a defect was returned. -/
def Obligations.StationsTakeWork : Prop :=
  ∀ (n : Nat) (s : State), n < 8 →
    let station : Byte := BitVec.ofNat 8 n
    let st := s.dev.station n
    (∀ x enabled mask : Byte, 7 < x.toNat ∨ 1 < enabled.toNat ∨ 127 < mask.toNat →
      s.Gives (.setStation · x enabled mask) .setStation s.dev .badValue [])
    ∧ (∀ mask : Byte, mask.toNat ≤ 127 →
      let m : BitVec 7 := mask.setWidth 7
      (∀ e, st.state = .working e →
        (s.Gives (.setStation · station 1 mask) .setStation (s.dev.setStation n ⟨.working e, m⟩) .ok
          (u8 1 ++ [mask] ++ u8 2 ++ u16 e.defect ++ u16 65535))
        ∧ ∀ (r : Defect) (p : Priority), s.dev.findDefect e.defect = some r → r.state = .assigned p n →
          s.Gives (.setStation · station 0 mask) .setStation
            ((({ s.dev with rq.queues := s.dev.rq.queues.set p (e :: s.dev.rq.queues.get p) } : Device).setStation n
              ⟨.offline, m⟩).setDefect e.defect fun x => { x with state := .queued p }) .ok
            (u8 0 ++ [mask] ++ u8 0 ++ u16 65535 ++ u16 e.defect))
      ∧ (st.state = .idle ∨ st.state = .offline →
        s.Gives (.setStation · station 1 mask) .setStation (s.dev.setStation n ⟨.idle, m⟩) .ok
          (u8 1 ++ [mask] ++ u8 1 ++ u16 65535 ++ u16 65535)
        ∧ s.Gives (.setStation · station 0 mask) .setStation (s.dev.setStation n ⟨.offline, m⟩) .ok
          (u8 0 ++ [mask] ++ u8 0 ++ u16 65535 ++ u16 65535)))
    ∧ (∀ x : Byte, 7 < x.toNat → s.Gives (.takeWork · x) .takeWork s.dev .badValue [])
    ∧ (st.state = .offline → s.Gives (.takeWork · station) .takeWork s.dev .wrongState [])
    ∧ (∀ e, st.state = .working e → s.Gives (.takeWork · station) .takeWork s.dev .busy (u16 e.defect))
    ∧ (st.state = .idle →
      let fits (e : Entry) : Prop := st.mask.getLsbD e.kind.code = true
      ((∀ p, ∀ e ∈ s.dev.rq.queues.get p, ¬ fits e) → s.Gives (.takeWork · station) .takeWork s.dev .nothing [])
      ∧ ∀ (p : Priority) (before after : List Entry) (e : Entry) (r : Defect),
        (∀ q : Priority, p.code < q.code → ∀ x ∈ s.dev.rq.queues.get q, ¬ fits x) →
        s.dev.rq.queues.get p = before ++ e :: after → (∀ x ∈ before, ¬ fits x ∧ x.defect ≠ e.defect) → fits e →
        s.dev.findDefect e.defect = some r →
        s.Gives (.takeWork · station) .takeWork
          ((({ s.dev with rq.queues := s.dev.rq.queues.set p (before ++ after) } : Device).setStation n
            ⟨.working e, st.mask⟩).setDefect e.defect fun x => { x with state := .assigned p n }) .ok
          ({ r with state := .assigned p n } : Defect).bytes)

/-- RETURN_WORK and COMPLETE_WORK refuse a station above 7, an id above 1023 and, for COMPLETE_WORK, an outcome that is
neither REPAIRED nor UNREPAIRABLE with BAD_VALUE, and answer TOO_LATE when the station does not hold the defect. A
return goes to the front of its queue; a repair frees the entry and is pushed on the undo stack, of 16 at most; an
unrepairable defect is WAIVED with detail 65,535 (R127 to R130, R132). UNDO_REPAIR answers NONE on an empty stack and
FULL at occupancy 192; else, at any occupancy below that, it takes the top record back to the front of its queue, QUEUED
and not refused (R133). That no presence byte precedes the undo record in these replies is the model's reading, log 33.
That TOO_LATE sends an absent id for a station that is not WORKING is the model's choice, log 13: the rule carries the
id only in WORKING. -/
def Obligations.WorkIsReturnedCompletedAndUndone : Prop :=
  ((∀ (tag station outcome : Byte) (defect : BitVec 16) (s : State), 1 < outcome.toNat →
    carryOut s.link (.completeWork station defect outcome) s.dev = (s.dev, ⟨.badValue, []⟩)
    ∧ (s.Ready → s.link.listening = true →
      exec (.requestFrame (frameChars (s.link.unitAddress.setWidth 8)
          (requestData tag 99 (station :: be16 defect ++ [outcome])))) s
        = .next (({ s with link.parser := .hunt } : State).answered tag .completeWork (s.dev.count .framesAccepted)
            .badValue [])))
  ∧ (∀ (station : Byte) (defect : BitVec 16) (s : State), 7 < station.toNat ∨ 1023 < defect.toNat →
    s.Gives (.returnWork · station defect) .returnWork s.dev .badValue []
    ∧ s.Gives (.completeWorkRepaired · station defect) .completeWork s.dev .badValue []
    ∧ s.Gives (.completeWorkUnrepairable · station defect) .completeWork s.dev .badValue [])
  ∧ ∀ (n : Nat) (defect : BitVec 16) (s : State), n < 8 → defect.toNat ≤ 1023 →
    let station : Byte := BitVec.ofNat 8 n
    let st := s.dev.station n
    let idle := s.dev.setStation n ⟨.idle, st.mask⟩
    ((∀ e, st.state = .working e → e.defect ≠ defect.toNat) →
      let body := match st.state with
        | .offline => u8 0 ++ u16 65535
        | .idle => u8 1 ++ u16 65535
        | .working e => u8 2 ++ u16 e.defect
      s.Gives (.returnWork · station defect) .returnWork s.dev .tooLate body
      ∧ s.Gives (.completeWorkRepaired · station defect) .completeWork s.dev .tooLate body
      ∧ s.Gives (.completeWorkUnrepairable · station defect) .completeWork s.dev .tooLate body)
    ∧ ∀ (e : Entry) (r : Defect) (p : Priority), st.state = .working e → e.defect = defect.toNat →
      s.dev.findDefect e.defect = some r → r.state = .assigned p n →
      s.Gives (.returnWork · station defect) .returnWork
        (({ idle with rq.queues := s.dev.rq.queues.set p (e :: s.dev.rq.queues.get p) } : Device).setDefect e.defect
          fun x => { x with state := .queued p }) .ok ({ r with state := .queued p } : Defect).bytes
      ∧ s.Gives (.completeWorkRepaired · station defect) .completeWork
        { idle.setDefect e.defect (fun x => { x with state := .repaired }) with
          rq.undo := { defect := e.defect, station := n, priority := p } :: s.dev.rq.undo.take 15 } .ok
        ({ r with state := .repaired } : Defect).bytes
      ∧ s.Gives (.completeWorkUnrepairable · station defect) .completeWork
        (idle.setDefect e.defect fun x => { x with state := .waived, detail := 65535 }) .ok
        ({ r with state := .waived, detail := 65535 } : Defect).bytes)
  ∧ (∀ s : State,
    let held := s.dev.rq.queues.p0.length + s.dev.rq.queues.p1.length + s.dev.rq.queues.p2.length
      + s.dev.rq.queues.p3.length + (s.dev.rq.stations.toList.filter (·.state.isWorking)).length
    (s.dev.rq.undo = [] → s.Gives (.undoRepair ·) .undoRepair s.dev .nothing [])
    ∧ ∀ (u : UndoRecord) (rest : List UndoRecord), s.dev.rq.undo = u :: rest →
      let record := u16 u.defect ++ u8 u.station ++ u8 u.priority.code
      (192 ≤ held → s.Gives (.undoRepair ·) .undoRepair s.dev .full record)
      ∧ ∀ r, held < 192 → s.dev.findDefect u.defect = some r →
        s.Gives (.undoRepair ·) .undoRepair
          (({ s.dev with
            rq.undo := rest
            rq.queues := s.dev.rq.queues.set u.priority (⟨u.defect, r.kind⟩ :: s.dev.rq.queues.get u.priority) }
              : Device).setDefect u.defect fun x => { x with state := .queued u.priority, refused := false }) .ok
          (record ++ ({ r with state := .queued u.priority, refused := false } : Defect).bytes))

/-! ### The Grading Unit (R140 to R158) -/

/-- DEFINE_SHOT relabels the shot that begins at the frame or splits the one that holds it, LOCKED when that shot is
locked and FULL at 512 (R141). DELETE_SHOT joins a shot to the one before it unless either is locked (R142). LOCK_SHOT
stores the grade of the moment as the snapshot of an unlocked shot, and UNLOCK_SHOT discards it; each is refused where
there is nothing to do (R143). A locked shot's grade is its snapshot (R150). The refusals here are those of these rules;
an index that names no shot is refused by R140 as NamedThingsAreCheckedFirst says. -/
def Obligations.ShotsAreDefinedDeletedAndLocked : Prop :=
  ((∀ (ref : FrameRef) (label : BitVec 32) (s : State) (e : Status), s.dev.resolve ref = .error e →
    s.Gives (.defineShot · ref label) .defineShot s.dev e [])
  ∧ (∀ (ref : FrameRef) (label : BitVec 32) (frame : Nat) (r : Reel) (before after : List Shot) (x : Shot) (s : State),
    s.dev.resolve ref = .ok frame → s.dev.loadedReel = some r → s.dev.gu.shots = before ++ x :: after →
    (∀ y ∈ before, y.first ≤ frame) → x.first ≤ frame → (∀ y ∈ after, frame < y.first) →
    let c : Envelope → Instr := (.defineShot · ref label)
    let last : Nat := match after with | y :: _ => y.first - 1 | [] => r.length - 1
    (x.snapshot.isSome → s.Gives c .defineShot s.dev .locked [])
    ∧ (x.snapshot = none → x.first = frame →
      s.Gives c .defineShot { s.dev with gu.shots := before ++ { x with label := label } :: after } .ok
        (u16 before.length ++ u16 frame ++ u16 last))
    ∧ (x.snapshot = none → x.first ≠ frame → 512 ≤ s.dev.gu.shots.length → s.Gives c .defineShot s.dev .full [])
    ∧ (x.snapshot = none → x.first ≠ frame → s.dev.gu.shots.length < 512 →
      let new : Shot := { first := frame, label := label, snapshot := none, clipRisk := 0 }
      s.Gives c .defineShot { s.dev with gu.shots := before ++ x :: new :: after } .ok
        (u16 (before.length + 1) ++ u16 frame ++ u16 last)))
  ∧ ∀ (index : BitVec 16) (x : Shot) (s : State), s.dev.NamesShot index x →
    (index = 0 → s.Gives (.deleteShot · index) .deleteShot s.dev .badValue [])
    ∧ ∀ (before after : List Shot) (y : Shot) (r : Reel), s.dev.loadedReel = some r →
      s.dev.gu.shots = before ++ y :: x :: after → index.toNat = before.length + 1 →
      (x.snapshot.isSome ∨ y.snapshot.isSome → s.Gives (.deleteShot · index) .deleteShot s.dev .locked [])
      ∧ (x.snapshot = none → y.snapshot = none →
        s.Gives (.deleteShot · index) .deleteShot { s.dev with gu.shots := before ++ y :: after } .ok
          (u16 before.length ++ u16 (match after with | z :: _ => z.first - 1 | [] => r.length - 1))))
  ∧ (∀ (index : BitVec 16) (x : Shot) (s : State), s.dev.NamesShot index x →
    (x.snapshot.isSome → s.Gives (.lockShot · index) .lockShot s.dev .wrongState []
      ∧ s.Gives (.unlockShot · index) .unlockShot
        { s.dev with gu.shots := s.dev.gu.shots.set index.toNat { x with snapshot := none } } .ok [])
    ∧ (x.snapshot = none → s.Gives (.unlockShot · index) .unlockShot s.dev .wrongState []
      ∧ let locked : Shot := { x with snapshot := some (s.dev.gradeOfLabel x.label) }
        s.Gives (.lockShot · index) .lockShot
          { s.dev with gu.shots := s.dev.gu.shots.set index.toNat locked } .ok
          (gradeBytes (s.dev.gradeOfLabel x.label)))
    ∧ ∀ g, x.snapshot = some g → s.dev.gradeOfShot x = g)

/-- SET_RULE stores a whole rule, each continuous value brought into range, and refuses an index, a length or a code
out of range; CLEAR_RULE restores the cleared values. SET_FADE_WINDOW restarts the sums, CLEAR_EXTREMES empties the
extremes; what the frames taken have published stays (R145, R149). An included frame adds its base densities; at 2 to
the window frames the truncated mean is published and the sum starts again; its mean densities widen the extremes
(R147, R148). -/
def Obligations.RulesFadeWindowAndStatistics : Prop :=
  ((∀ (op : RuleOperands) (s : State),
    (31 < op.rule.toNat ∨ 32 < op.length.toNat ∨ yesNo op.enabled = none ∨ FadeMode.ofCode op.fadeMode.toNat = none
      ∨ yesNo op.exclude = none → s.Gives (.setRule · op) .setRule s.dev .badValue [])
    ∧ ∀ enabled fadeMode exclude, op.rule.toNat ≤ 31 → op.length.toNat ≤ 32 → yesNo op.enabled = some enabled →
      FadeMode.ofCode op.fadeMode.toNat = some fadeMode → yesNo op.exclude = some exclude →
      let range (lo hi n : Int) : Int := if n < lo then lo else if hi < n then hi else n
      let channel (c : ChannelRuleOperands) : ChannelRule :=
        { black := min 4095 c.black.toNat, gain := min 8191 c.gain.toNat, offset := range (-512) 511 c.offset.toInt
          trim := range (-50) 50 c.trim.toInt }
      let asGiven (c : ChannelRuleOperands) : Prop := c.black.toNat ≤ 4095 ∧ c.gain.toNat ≤ 8191
        ∧ -512 ≤ c.offset.toInt ∧ c.offset.toInt ≤ 511 ∧ -50 ≤ c.trim.toInt ∧ c.trim.toInt ≤ 50
      let rule : Rule :=
        { enabled, key := op.key, length := op.length.toNat
          channels := ⟨channel op.channels.red, channel op.channels.green, channel op.channels.blue⟩, fadeMode
          fixedFade := range (-400) 400 op.fixedFade.toInt, fadeGain := min 16 op.fadeGain.toNat, exclude }
      ∀ status : Status,
        (asGiven op.channels.red ∧ asGiven op.channels.green ∧ asGiven op.channels.blue ∧ -400 ≤ op.fixedFade.toInt
          ∧ op.fixedFade.toInt ≤ 400 ∧ op.fadeGain.toNat ≤ 16 ∧ status = .ok
        ∨ ¬ (asGiven op.channels.red ∧ asGiven op.channels.green ∧ asGiven op.channels.blue
          ∧ -400 ≤ op.fixedFade.toInt ∧ op.fixedFade.toInt ≤ 400 ∧ op.fadeGain.toNat ≤ 16) ∧ status = .okClamped) →
        s.Gives (.setRule · op) .setRule { s.dev with gu.rules := s.dev.gu.rules.setIfInBounds op.rule.toNat rule } status
          (rule.bytes op.rule.toNat))
  ∧ (∀ (n : Byte) (s : State),
    (31 < n.toNat → s.Gives (.clearRule · n) .clearRule s.dev .badValue [])
    ∧ (n.toNat ≤ 31 →
      let channel : ChannelRule := { black := 0, gain := 0, offset := 0, trim := 0 }
      let cleared : Rule :=
        { enabled := false, key := 0, length := 0, channels := ⟨channel, channel, channel⟩, fadeMode := .off
          fixedFade := 0, fadeGain := 0, exclude := false }
      s.Gives (.clearRule · n) .clearRule { s.dev with gu.rules := s.dev.gu.rules.setIfInBounds n.toNat cleared } .ok []))
  ∧ ∀ (n : Byte) (s : State),
    let f := s.dev.gu.fade
    (8 < n.toNat → s.Gives (.setFadeWindow · n) .setFadeWindow s.dev .badValue [])
    ∧ (n.toNat ≤ 8 → s.Gives (.setFadeWindow · n) .setFadeWindow
      { s.dev with
        gu.window := n.toNat
        gu.fade := ⟨{ f.red with sum := 0, count := 0 }, { f.green with sum := 0, count := 0 },
          { f.blue with sum := 0, count := 0 }⟩ } .ok [])
    ∧ s.Gives (.clearExtremes ·) .clearExtremes
      { s.dev with gu.fade := ⟨{ f.red with extremes := none }, { f.green with extremes := none },
          { f.blue with extremes := none }⟩ } .ok [])
  ∧ (∀ (mean base : PerChannel Nat) (d : Device),
    let add (f : FadeChannel) (m b : Nat) : FadeChannel :=
      let extremes := match f.extremes with
        | none => some (m, m)
        | some (lo, hi) => some (if m < lo then m else lo, if hi < m then m else hi)
      if f.count + 1 < 2 ^ d.gu.window then
        { f with sum := f.sum + b, count := f.count + 1, extremes := extremes }
      else { sum := 0, count := 0, mean := (f.sum + b) / 2 ^ d.gu.window, valid := true, extremes := extremes }
    d.takeStatistics mean base = { d with gu.fade := ⟨add d.gu.fade.red mean.red base.red,
      add d.gu.fade.green mean.green base.green, add d.gu.fade.blue mean.blue base.blue⟩ })

/-- The winning rule for a label is the enabled one whose key agrees with it over its whole length and whose length is
greatest, the highest index among equals; with none the identity grade applies: b 0, g 1024, o 0, p 0, fade mode OFF,
exclude no (R146). The grade of a label takes gain and offset from its rule, and as black point b - 25 p - f within 0 to
4095, the fade f by the rule's mode from the reel's reference and the published mean (R150). The shot that holds a frame
is the one with the greatest first frame at or below it (R140), and the answer to the exclusion question for the frame
is the exclude flag of the rule that wins for that shot's label, locked or not, and no where none wins (R97, R152). -/
def Obligations.GradeFollowsTheLongestMatchingRule : Prop :=
  (∀ (g : Grading) (label : BitVec 32),
    let fits (r : Rule) : Prop := r.enabled = true ∧ ∀ b < r.length, label.getMsbD b = r.key.getMsbD b
    (∀ (i : Nat) (r : Rule), g.winner label = some (i, r) ↔
      g.rules[i]? = some r ∧ fits r ∧ ∀ (j : Nat) (x : Rule), g.rules[j]? = some x → fits x →
        x.length < r.length ∨ (x.length = r.length ∧ j ≤ i))
    ∧ (g.winner label = none ↔ ∀ r ∈ g.rules.toList, ¬ fits r)
    ∧ (g.winner label = none → (g.ruleFor label).fadeMode = .off ∧ (g.ruleFor label).exclude = false
      ∧ ∀ c ∈ (g.ruleFor label).channels.toList, c = { black := 0, gain := 1024, offset := 0, trim := 0 })
    ∧ ∀ i r, g.winner label = some (i, r) → g.ruleFor label = r)
  ∧ (∀ (label : BitVec 32) (reel : Reel) (d : Device), d.loadedReel = some reel →
    let r := d.gu.ruleFor label
    let grade (c : ChannelRule) (reference : Nat) (f : FadeChannel) : ChannelGrade :=
      let fade : Int := match r.fadeMode with
        | .auto => if f.valid = true ∧ reference ≠ 0 then
            max (-400) (min 400 ((((reference : Int) - f.mean) * r.fadeGain).tdiv 16)) else 0
        | .fixed => r.fixedFade
        | .off => 0
      { black := (max 0 (min 4095 ((c.black : Int) - 25 * c.trim - fade))).toNat, gain := c.gain, offset := c.offset }
    d.gradeOfLabel label = ⟨grade r.channels.red reel.fadeRef.red d.gu.fade.red,
      grade r.channels.green reel.fadeRef.green d.gu.fade.green, grade r.channels.blue reel.fadeRef.blue d.gu.fade.blue⟩)
  ∧ (∀ (frame : Nat) (before after : List Shot) (x : Shot) (g : Grading), g.shots = before ++ x :: after →
    (∀ y ∈ before, y.first ≤ frame) → x.first ≤ frame → (∀ y ∈ after, frame < y.first) →
    g.shotIndex frame = before.length ∧ g.shotAt frame = some x
    ∧ (g.winner x.label = none → g.excludes frame = false)
    ∧ ∀ i r, g.winner x.label = some (i, r) → g.excludes frame = r.exclude)

/-- An output code is o + floor(((d - E) g + 2048) / 4096) brought within 0 to 1023; every fade of a rule whose fixed
fade is in range lies in -400 to 400, and every effective black point in 0 to 4095 (R153). -/
def Obligations.OutputCodeRoundsAndClamps : Prop :=
  (∀ (g : ChannelGrade) (density : Nat) (q : Int),
    4096 * q ≤ ((density : Int) - g.black) * g.gain + 2048 → ((density : Int) - g.black) * g.gain + 2048 < 4096 * (q + 1) →
    (outputCode g density : Int) = if g.offset + q < 0 then 0 else if 1023 < g.offset + q then 1023 else g.offset + q)
  ∧ (∀ (g : ChannelGrade) (density : Nat), outputCode g density ≤ 1023)
  ∧ (∀ (r : Rule) (reference : Nat) (f : FadeChannel), -400 ≤ r.fixedFade → r.fixedFade ≤ 400 →
    -400 ≤ fadeOf r reference f ∧ fadeOf r reference f ≤ 400)
  ∧ ∀ (c : ChannelRule) (fade : Int), effectiveBlack c fade ≤ 4095

/-! ### Notices and counters (R159 to R168) -/

/-- A posting raises the repeats and replaces the detail of the record with its kind and subject; else it joins the
tail with the suite clock, up to 32 records; else only the overflow count rises (R160). -/
def Obligations.PostingsCoalesceAppendOrOverflow : Prop :=
  ∀ (kind : NoticeKind) (subject detail : Nat) (d : Device),
    ((∃ n ∈ d.nl.notices, n.kind = kind ∧ n.subject = subject) →
      d.post kind subject detail = { d with nl.notices := d.nl.notices.map fun n =>
        if n.kind = kind ∧ n.subject = subject then { n with repeats := min 255 (n.repeats + 1), detail := detail } else n })
    ∧ ((∀ n ∈ d.nl.notices, ¬ (n.kind = kind ∧ n.subject = subject)) →
      (d.nl.notices.length < 32 → d.post kind subject detail = { d with
        nl.notices := d.nl.notices ++ [{ kind, subject, first := d.time.clock, repeats := 1, detail }] })
      ∧ (32 ≤ d.nl.notices.length → d.post kind subject detail = { d with nl.overflow := min 255 (d.nl.overflow + 1) }))

/-- FETCH_NOTICES removes up to 8 records from the front into its reply, oldest first, with the overflow count, which
it zeroes; NONE when there are none (R161). -/
def Obligations.FetchNoticesDrainsTheFront : Prop :=
  ∀ (front back : List Notice) (s : State), s.dev.nl.notices = front ++ back → front.length ≤ 8 →
    (front.length = 8 ∨ back = []) →
    s.Gives (.fetchNotices ·) .fetchNotices { s.dev with nl.notices := back, nl.overflow := 0 }
      (if front = [] then .nothing else .ok)
      (u8 front.length ++ front.flatMap Notice.bytes ++ u8 s.dev.nl.overflow)

/-- SET_ATTENTION_MASK stores a set of the fifteen kinds, refuses a sixteenth, and answers the mask and the line, which
is asserted while a record of a masked kind waits; the mask after a reset holds every kind (R163). The line's code in
the reply, 1 asserted and 0 released, is the model's choice, log 34. So is the mask's width in the reply, that of the
request, log 13. -/
def Obligations.SetAttentionMaskMovesTheLine : Prop :=
  (∀ (mask : BitVec 16) (s : State),
    (mask.getLsbD 15 = true → s.Gives (.setAttentionMask · mask) .setAttentionMask s.dev .badValue [])
    ∧ (mask.getLsbD 15 = false →
      let line : Bool := s.dev.nl.notices.any fun n => mask.getLsbD n.kind.code
      s.Gives (.setAttentionMask · mask) .setAttentionMask { s.dev with nl.mask := mask.setWidth 15 } .ok
        (be16 mask ++ u8 (if line then 1 else 0))
      ∧ ({ s.dev with nl.mask := mask.setWidth 15 } : Device).attentionLine = line))
  ∧ ∀ kind : NoticeKind, State.reset.dev.nl.mask.getLsbD kind.code = true

/-- SNAPSHOT_COUNTERS copies the live counters with the run counter, and with the flag zeroes them; CLEAR_COUNTERS
zeroes them and keeps the snapshot; a flag that is neither yes nor no is refused (R166, R167). -/
def Obligations.CountersAreSnapshotAndCleared : Prop :=
  ∀ s : State,
    let zeroed (d : Device) : Prop := ∀ n ∈ d.counters.toList, n = 0
    let taken (c : Counters) : Device :=
      { s.dev with snapshot := { values := s.dev.counters, time := some s.dev.time.runCounter }, counters := c }
    (∀ clear : Byte, 1 < clear.toNat → s.Gives (.snapshotCounters · clear) .snapshotCounters s.dev .badValue [])
    ∧ s.Gives (.snapshotCounters · 0) .snapshotCounters (taken s.dev.counters) .ok []
    ∧ ∃ zero : Counters, zeroed { s.dev with counters := zero }
      ∧ s.Gives (.snapshotCounters · 1) .snapshotCounters (taken zero) .ok []
      ∧ s.Gives (.clearCounters ·) .clearCounters { s.dev with counters := zero } .ok []

/-- RESTART_SUITE abandons the session: the LOADED reel is READY with session lost, the transport EMPTY, the tracker
gone, orders, defects, shots, queues, notices and counters empty; slots, clock, settings, policies, rules, stations'
settings, the incident record and the link are kept, and the sender keeps only the frame in progress (R20, R37, R46,
R70, R85, R102, R119, R139, R158, R164, R168, R179, R181). That the capstan count is kept is the model's choice, log 8.
-/
def Obligations.RestartSuiteAbandonsTheSession : Prop :=
  ∀ s : State, ∃ d : Device, s.Gives (.restartSuite ·) .restartSuite d .ok []
    ∧ d.reels = s.dev.reels.map (fun r => if r.state = .loaded then { r with state := .ready, sessionLost := true } else r)
    ∧ d.vault = s.dev.vault ∧ d.time = s.dev.time ∧ d.capstan = s.dev.capstan ∧ d.freeDraws = s.dev.freeDraws
    ∧ d.tc.state = .empty ∧ d.tc.remembered = none ∧ d.tc.direction = none ∧ d.tc.target = none
    ∧ d.tc.faultCause = none ∧ d.tc.pass = none ∧ d.tc.pendingEnd = none ∧ d.tc.aligned = false ∧ d.tc.integrator = 0
    ∧ d.tc.retries = 0 ∧ d.tc.watch = .inactive ∧ d.tc.relaxExpired = false ∧ d.tc.strainLine = false
    ∧ d.tc.threadingDue = none ∧ d.tc.relaxDue = none ∧ d.tc.strainDue = none ∧ d.tc.slipDue = none
    ∧ d.tc.feed = s.dev.tc.feed ∧ d.tc.takeUp = s.dev.tc.takeUp ∧ d.tc.settings = s.dev.tc.settings
    ∧ d.tc.incident = s.dev.tc.incident ∧ d.tc.incidentCount = s.dev.tc.incidentCount
    ∧ d.tc.filmPresent = s.dev.tc.filmPresent ∧ d.speedDemand = 0 ∧ d.brake = false
    ∧ d.pt = none
    ∧ d.cu = { s.dev.cu with orders := [], tagCounter := 0, gaps := 0 }
    ∧ d.dm = { s.dev.dm with records := [] }
    ∧ d.rq.queues = ⟨[], [], [], []⟩ ∧ d.rq.undo = [] ∧ d.rq.occupancy = 0
    ∧ (∀ n < 8, (d.station n).mask = (s.dev.station n).mask
      ∧ ((s.dev.station n).state = .offline → (d.station n).state = .offline)
      ∧ ((s.dev.station n).state ≠ .offline → (d.station n).state = .idle))
    ∧ d.gu.shots = [] ∧ d.gu.rules = s.dev.gu.rules ∧ d.gu.window = s.dev.gu.window
    ∧ d.gu.fade.toList = List.replicate 3 { sum := 0, count := 0, mean := 0, valid := false, extremes := none }
    ∧ d.nl = { s.dev.nl with notices := [], overflow := 0 } ∧ d.attentionLine = false
    ∧ (∀ n ∈ d.counters.toList, n = 0) ∧ (∀ n ∈ d.snapshot.values.toList, n = 0) ∧ d.snapshot.time = none
    ∧ d.pipe.parser = s.dev.pipe.parser ∧ d.pipe.lineLow = s.dev.pipe.lineLow
    ∧ d.pipe.sending = s.dev.pipe.sending ∧ d.pipe.waiting = []

/-! ### Readings -/

/-- The readings change nothing and answer what their rules list, byte for byte, most significant first (R19, R34 to
R36, R40, R68, R69, R84, R101, R116, R117, R135, R136, R144, R149, R155, R166, R180, R183). A starting point or code
outside its range is refused. The second half lays out every field and record of 12.5 and of the rules, and the codes of
12.6, in which every answer of this file is written. Model's choices: order and presence bytes where 12.5 tabulates no
layout (log 13); a time left of 0 once a deadline is reached (log 15); the silicon revision (log 27); the speed demand's
byte (log 14), the open byte of alignment (log 12), the open width, most significant byte first, of N, k, P16, E, c, the
accumulator count and the output codes (log 11), no mark for an absent reel but its fields (log 29), the count before
the station records (log 30), the order of slot counts and the byte of the class set (log 31), the order of counts,
thresholds, queue lengths and channels where a rule names none (log 32), the codes of brake and lines (log 34), and the
width of a threshold and of other fields not listed by name (log 35). -/
def Obligations.ReadingsAnswerAndChangeNothing : Prop :=
  (∀ s : State,
    let d := s.dev
    let now := d.time.runCounter
    s.Gives (.identify ·) .identify d .ok
      (u16 340 ++ u8 Config.siliconRevision ++ u8 s.link.unitAddress.toNat ++ u8 s.link.rate.toNat
        ++ [256, 256, 1024, 192, 8, 16, 512, 32, 8, 32, 4, 4].flatMap u16)
    ∧ s.Gives (.readClock ·) .readClock d .ok
      (u32 d.time.clock.seconds ++ u32 d.time.clock.micros ++ i16 d.time.trim ++ u8 1 ++ u48 now)
    ∧ s.Gives (.readCounters ·) .readCounters d .ok
      (d.snapshot.values.toList.flatMap u16
        ++ match d.snapshot.time with | some t => u8 1 ++ u48 t | none => u8 0 ++ List.replicate 6 0)
    ∧ (∀ id r, d.Names id r → s.Gives (.reelStatus · id) .reelStatus d .ok (r.bytes now))
    ∧ (∀ front back, d.reels = front ++ back → front.length ≤ 8 → (front.length = 8 ∨ back = []) →
      s.Gives (.listReels · 0) .listReels d .ok
        (u8 front.length ++ front.flatMap (Reel.bytes now) ++ u32 (match back with | r :: _ => r.id | [] => 0)))
    ∧ (∀ (id : BitVec 32) (before front back : List Reel), id ≠ 0 → d.reels = before ++ front ++ back →
      (∀ r ∈ before, r.id ≠ id.toNat) → front.head?.map (·.id) = some id.toNat → front.length ≤ 8 →
      (front.length = 8 ∨ back = []) →
      s.Gives (.listReels · id) .listReels d .ok
        (u8 front.length ++ front.flatMap (Reel.bytes now) ++ u32 (match back with | r :: _ => r.id | [] => 0)))
    ∧ (∀ id : BitVec 32, id ≠ 0 → (∀ r ∈ d.reels, r.id ≠ id.toNat) →
      s.Gives (.listReels · id) .listReels d .notFound [])
    ∧ (∀ n : BitVec 16, n.toNat ≤ 255 →
      let zone : Nat := if n.toNat < 128 then 0 else if n.toNat < 192 then 1 else if n.toNat < 240 then 2 else 3
      (d.slot n.toNat = .free → s.Gives (.slotStatus · n) .slotStatus d .ok (u8 zone ++ u8 0 ++ u32 0 ++ u8 255))
      ∧ (d.slot n.toNat = .closed → s.Gives (.slotStatus · n) .slotStatus d .ok (u8 zone ++ u8 3 ++ u32 0 ++ u8 255))
      ∧ (∀ id r, d.slot n.toNat = .reserved id → d.findReel id = some r →
        s.Gives (.slotStatus · n) .slotStatus d .ok (u8 zone ++ u8 1 ++ u32 id ++ u8 r.state.code))
      ∧ (∀ id r, d.slot n.toNat = .occupied id → d.findReel id = some r →
        s.Gives (.slotStatus · n) .slotStatus d .ok (u8 zone ++ u8 2 ++ u32 id ++ u8 r.state.code)))
    ∧ (∀ n : Byte,
      let listed := (d.vault.hold.drop n.toNat).take 16
      s.Gives (.listHold · n) .listHold d .ok (u16 d.vault.hold.length ++ u8 listed.length ++ listed.flatMap u32))
    ∧ (∀ z : Zone,
      let slots := (List.range 256).filter fun n => decide (zoneOf n = z)
      let classes := (if d.allowed .a z then 1 else 0) + (if d.allowed .b z then 2 else 0)
        + (if d.allowed .c z then 4 else 0) + (if d.allowed .d z then 8 else 0)
      s.Gives (.zoneStatus · (BitVec.ofNat 8 z.code)) .zoneStatus d .ok
        (u16 (d.vault.zoneMinutes.get z) ++ u8 (slots.countP fun n => decide ((d.slot n).code = 0))
          ++ u8 (slots.countP fun n => decide ((d.slot n).code = 1)) ++ u8 (slots.countP fun n => decide ((d.slot n).code = 2))
          ++ u8 (slots.countP fun n => decide ((d.slot n).code = 3)) ++ u8 classes))
    ∧ s.Gives (.readIncident ·) .readIncident d .ok
      ((match d.tc.incident with | some i => u8 1 ++ i.bytes | none => u8 0 ++ List.replicate 30 0)
        ++ u8 d.tc.incidentCount)
    ∧ (∀ f : Config.UnsizedField,
      (∀ x i : Nat, (unsized f (some x)).length = fieldWidth f
        ∧ (i < fieldWidth f → (unsized f (some x))[fieldWidth f - 1 - i]? = some (BitVec.ofNat 8 (x / 256 ^ i))))
      ∧ unsized f none =
        if fieldWidth f = 1 then u8 255 else if fieldWidth f = 2 then u16 65535
        else unsized f (some (Config.absentValue f)))
    ∧ s.Gives (.transportStatus ·) .transportStatus d .ok
      (let t := d.tc
       let x := t.settings
       u8 t.state.code ++ u8 (match t.remembered with | some .winding => 3 | some .running => 4 | none => 255)
        ++ u8 (match t.faultCause with | some cause => cause.code | none => 255)
        ++ (match t.pass with
          | some p => u8 1 ++ u16 p.first ++ u16 p.last ++ u8 p.speed ++ u16 p.number
          | none => u8 0 ++ List.replicate 7 0)
        ++ u8 (match t.pendingEnd with
          | some .hostStop => 1 | some .condition => 2 | some .pipeline => 3 | none => 255)
        ++ u8 (match t.direction with | some .forward => 0 | some .backward => 1 | none => 255)
        ++ u16 (t.target.getD 65535)
        ++ (match d.pt with | some p => u8 1 ++ u16 p.head | none => u8 0 ++ List.replicate 2 0)
        ++ u8 d.speedDemand ++ u8 (if d.brake then 1 else 0) ++ u16 t.feed ++ u16 t.takeUp ++ u16 (d.limit.getD 65535)
        ++ u16 t.integrator ++ u16 (30 * x.faultTime) ++ u8 t.retries ++ u8 t.watch.code
        ++ u8 (if t.filmPresent then 1 else 0) ++ u8 (if t.strainLine then 1 else 0) ++ [Config.alignmentCode t.aligned]
        ++ u8 x.threadingTime ++ u16 x.faultTime
        ++ u8 (match x.retryPolicy with | .never => 0 | .count n => n | .unlimited => 8) ++ u16 x.relaxTime
        ++ u16 x.slipMargin ++ u8 (match x.slipAction with | .stop => 0 | .report => 1) ++ u16 (x.limitCap.getD 0))
    ∧ (∀ p : Tracker, d.pt = some p → s.Gives (.trackerStatus ·) .trackerStatus d .ok
      (let (code, nominal, perFrame) : Nat × Nat × Nat := match p.gauge with
        | .g35 => (0, 4750, 4)
        | .g16 => (1, 7620, 1)
       u8 code ++ unsized .nominalPitch (some nominal) ++ unsized .perforationsPerFrame (some perFrame)
        ++ unsized .smoothedPitch (some p.p16) ++ unsized .expectedPitch (some (p.p16 / 16))
        ++ (match p.last with | some x => u8 1 ++ be32 x | none => u8 0 ++ List.replicate 4 0)
        ++ unsized .perforationCount (some p.count) ++ u8 1 ++ u16 p.head ++ u16 (p.markA.getD 65535)
        ++ u16 (p.markB.getD 65535) ++ u16 p.latest ++ u16 p.peak))
    ∧ (d.pt = none → s.Gives (.trackerStatus ·) .trackerStatus d .ok
      (u8 255 ++ unsized .nominalPitch none ++ unsized .perforationsPerFrame none ++ unsized .smoothedPitch none
        ++ unsized .expectedPitch none ++ List.replicate 5 0 ++ unsized .perforationCount none ++ List.replicate 3 0
        ++ u16 65535 ++ u16 65535 ++ u16 65535 ++ u16 65535))
    ∧ s.Gives (.captureStatus ·) .captureStatus d .ok
      (u8 d.cu.orders.length ++ d.cu.orders.flatMap (Order.entryBytes now) ++ [d.cu.tagCounter] ++ u8 d.cu.gaps
        ++ u16 d.cu.timeout ++ u16 d.cu.dustLimit ++ u16 d.cu.scratchLimit)
    ∧ (∀ op : ListDefectsOperands,
      (1023 < op.start.toNat ∨ op.first = 65535 ∨ op.last = 65535 ∨ op.last.toNat < op.first.toNat ∨ 63 < op.states.toNat →
        s.Gives (.listDefects · op) .listDefects d .badValue [])
      ∧ ∀ front back, op.start.toNat ≤ 1023 → op.last ≠ 65535 → op.first.toNat ≤ op.last.toNat → op.states.toNat ≤ 63 →
        (d.dm.records.filter fun r => decide (op.start.toNat ≤ r.id ∧ op.kinds.getLsbD r.kind.code = true
          ∧ op.states.getLsbD r.state.code = true ∧ r.frame ≤ op.last.toNat ∧ op.first.toNat < r.frame + r.extent))
          = front ++ back → front.length ≤ 8 → (front.length = 8 ∨ back = []) →
        s.Gives (.listDefects · op) .listDefects d .ok
          (u8 front.length ++ front.flatMap Defect.bytes ++ u16 (match back with | r :: _ => r.id | [] => 65535)))
    ∧ s.Gives (.defectSummary ·) .defectSummary d .ok
      (let l := d.dm.records
       let t := d.dm.thresholds
       let ofKind (k : DefectKind) : List Byte := (List.range 6).flatMap fun code =>
        u16 (l.countP fun r => decide (r.kind = k ∧ r.state.code = code))
       let ofRoute (kinds : List DefectKind) : List Byte := (List.range 3).flatMap fun code =>
        u16 (l.countP fun r => decide (r.kind ∈ kinds ∧ r.state.code = code))
       u16 l.length ++ u16 (1024 - l.length)
        ++ ofKind .perfDamage ++ ofKind .perfMissing ++ ofKind .splice ++ ofKind .tear ++ ofKind .warp ++ ofKind .dust
        ++ ofKind .scratch ++ ofKind .scanGap
        ++ ofRoute [.perfDamage, .perfMissing, .splice, .tear, .warp] ++ ofRoute [.dust, .scratch] ++ ofRoute [.scanGap]
        ++ u16 (l.countP fun r => decide (r.state = .found ∧ r.refused = true))
        ++ u16 (l.countP fun r => decide (r.state.code = 1)) ++ u16 (l.countP fun r => decide (r.state.code = 2))
        ++ u16 (l.countP fun r => decide (r.kind = .scanGap ∧ r.state = .found))
        ++ u8 t.perfDamage ++ u8 t.perfMissing ++ u8 t.splice ++ u8 t.tear ++ u8 t.warp ++ u8 t.dust ++ u8 t.scratch
        ++ u8 t.scanGap)
    ∧ s.Gives (.queueStatus ·) .queueStatus d .ok
      (u8 d.rq.queues.p0.length ++ u8 d.rq.queues.p1.length ++ u8 d.rq.queues.p2.length ++ u8 d.rq.queues.p3.length
        ++ u8 d.rq.occupancy ++ u8 8 ++ d.rq.stations.toList.flatMap Station.bytes ++ u8 d.rq.undo.length
        ++ match d.rq.undo with
          | u :: _ => u8 1 ++ u16 u.defect ++ u8 u.station ++ u8 u.priority.code
          | [] => u8 0 ++ List.replicate 4 0)
    ∧ (∀ p n : Byte, 3 < p.toNat ∨ 191 < n.toNat → s.Gives (.listQueue · p n) .listQueue d .badValue [])
    ∧ (∀ (p : Priority) (n : Byte), n.toNat ≤ 191 →
      let listed := ((d.rq.queues.get p).drop n.toNat).take 16
      s.Gives (.listQueue · (BitVec.ofNat 8 p.code) n) .listQueue d .ok
        (u8 (d.rq.queues.get p).length ++ u8 listed.length ++ listed.flatMap fun e => u16 e.defect ++ u8 e.kind.code))
    ∧ (∀ n : BitVec 16, 511 < n.toNat → s.Gives (.listShots · n) .listShots d .badValue [])
    ∧ (∀ n : BitVec 16, n.toNat ≤ 511 →
      let shots := d.gu.shots
      let length : Nat := match d.loadedReel with | some r => r.length | none => 0
      let last (i : Nat) : Nat := match shots[i + 1]? with | some y => y.first - 1 | none => length - 1
      let record (x : Shot) (i : Nat) : List Byte :=
        u16 i ++ u16 x.first ++ u16 (last i) ++ be32 x.label
          ++ (match x.snapshot with | some g => u8 1 ++ gradeBytes g | none => List.replicate 19 0) ++ u16 x.clipRisk
      let listed := (shots.drop n.toNat).take 8
      s.Gives (.listShots · n) .listShots d .ok
        (u16 shots.length ++ u8 listed.length ++ (listed.zipIdx n.toNat).flatMap (fun (x, i) => record x i)
          ++ u16 (if n.toNat + 8 < shots.length then n.toNat + 8 else 65535)))
    ∧ s.Gives (.fadeStatus ·) .fadeStatus d .ok
      (u8 d.gu.window ++ [d.gu.fade.red, d.gu.fade.green, d.gu.fade.blue].flatMap fun c =>
        u32 c.sum ++ unsized .accumulatorCount (some c.count) ++ u16 c.mean ++ u8 (if c.valid then 1 else 0)
          ++ match c.extremes with
            | some (low, high) => u16 low ++ u16 high
            | none => u16 65535 ++ u16 65535)
    ∧ ∀ (ref : FrameRef) (density : PerChannel (BitVec 16)),
      (∀ e, d.resolve ref = .error e → s.Gives (.evaluateGrade · ref density) .evaluateGrade d e [])
      ∧ ∀ (frame : Nat) (x : Shot) (reel : Reel), d.resolve ref = .ok frame → d.gu.shotAt frame = some x →
        d.loadedReel = some reel →
        let r := d.gu.ruleFor x.label
        let fade (reference : Nat) (f : FadeChannel) : Int := match r.fadeMode with
          | .auto => if f.valid = true ∧ reference ≠ 0 then
              max (-400) (min 400 ((((reference : Int) - f.mean) * r.fadeGain).tdiv 16)) else 0
          | .fixed => r.fixedFade
          | .off => 0
        let g := d.gradeOfShot x
        let code (c : ChannelGrade) (density : BitVec 16) : List Byte :=
          unsized .outputCode (some (outputCode c (min 4095 density.toNat)))
        s.Gives (.evaluateGrade · ref density) .evaluateGrade d
          (if 4095 < density.red.toNat ∨ 4095 < density.green.toNat ∨ 4095 < density.blue.toNat then .okClamped else .ok)
          (u16 frame ++ u16 (d.gu.shotIndex frame)
            ++ (match x.snapshot with
              | some _ => u8 1 ++ u8 255 ++ i16 (-32768) ++ i16 (-32768) ++ i16 (-32768)
              | none =>
                u8 0 ++ u8 (match d.gu.winner x.label with | some (index, _) => index | none => 255)
                  ++ i16 (fade reel.fadeRef.red d.gu.fade.red) ++ i16 (fade reel.fadeRef.green d.gu.fade.green)
                  ++ i16 (fade reel.fadeRef.blue d.gu.fade.blue))
            ++ gradeBytes g ++ code g.red density.red ++ code g.green density.green ++ code g.blue density.blue))
  ∧ ((∀ n : Nat, u8 n = [BitVec.ofNat 8 n] ∧ u16 n = [BitVec.ofNat 8 (n / 256), BitVec.ofNat 8 n]
      ∧ u32 n = u16 (n / 65536) ++ u16 n ∧ u48 n = u16 (n / 4294967296) ++ u32 n)
    ∧ (∀ z : Int, i8 z = u8 (z % 256).toNat ∧ i16 z = u16 (z % 65536).toNat)
    ∧ (∀ (x : BitVec 16) (y : BitVec 32), be16 x = u16 x.toNat ∧ be32 y = u32 y.toNat)
    ∧ (∀ (now : Nat) (r : Reel), r.bytes now =
      u32 r.id ++ u16 r.length ++ be32 r.label ++ u8 (r.cls.code + 16 * r.home.code) ++ u8 r.state.code
        ++ u8 ((match r.gauge with | .g35 => 0 | .g16 => 1) + (if r.permit then 2 else 0) + (if r.graded then 4 else 0)
          + (if r.sessionLost then 8 else 0)
          + (match r.state with | .shelved _ | .outbound _ | .returning _ => 16 | _ => 0))
        ++ u8 (match r.state with | .shelved n | .outbound n | .returning n => n | _ => 0)
        ++ u8 r.passes ++ u16 r.shrinkage ++ u16 r.passTotal
        ++ u16 r.fadeRef.red ++ u16 r.fadeRef.green ++ u16 r.fadeRef.blue ++ u16 r.deferred
        ++ u32 (match r.state with | .acclimatizing deadline => deadline - now | _ => 0))
    ∧ (∀ r : Defect, r.bytes =
      u16 r.id ++ u16 r.frame ++ u8 r.extent ++ u8 r.kind.code ++ u8 r.state.code ++ u8 r.severity ++ u8 r.origin.code
        ++ u16 r.detail ++ u32 r.found.seconds ++ u32 r.found.micros
        ++ u8 (match r.state with | .queued p | .assigned p _ => p.code | _ => 255)
        ++ u8 (match r.state with | .assigned _ n => n | _ => 255) ++ u8 (if r.refused then 1 else 0))
    ∧ (∀ g : Grade, gradeBytes g =
      u16 g.red.black ++ u16 g.green.black ++ u16 g.blue.black ++ u16 g.red.gain ++ u16 g.green.gain ++ u16 g.blue.gain
        ++ i16 g.red.offset ++ i16 g.green.offset ++ i16 g.blue.offset)
    ∧ (∀ (index : Nat) (r : Rule),
      let channel (c : ChannelRule) : List Byte := u16 c.black ++ u16 c.gain ++ i16 c.offset ++ i8 c.trim
      r.bytes index = u8 index ++ u8 (if r.enabled then 1 else 0) ++ be32 r.key ++ u8 r.length
        ++ channel r.channels.red ++ channel r.channels.green ++ channel r.channels.blue
        ++ u8 (match r.fadeMode with | .auto => 0 | .fixed => 1 | .off => 2) ++ i16 r.fixedFade ++ u8 r.fadeGain
        ++ u8 (if r.exclude then 1 else 0))
    ∧ (∀ n : Notice, n.bytes =
      u8 n.kind.code ++ u32 n.subject ++ u32 n.first.seconds ++ u32 n.first.micros ++ u8 n.repeats ++ u16 n.detail)
    ∧ (∀ (now : Nat) (o : Order),
      let g := o.grade
      let fields : List (Nat × Int) :=
        [(12, g.red.black), (12, g.green.black), (12, g.blue.black), (13, g.red.gain), (13, g.green.gain),
          (13, g.blue.gain), (10, g.red.offset), (10, g.green.offset), (10, g.blue.offset), (7, 0)]
      let packed : Nat := fields.foldl (fun n (width, z) => n * 2 ^ width + (z % 2 ^ width).toNat) 0
      o.entryBytes now = [o.tag] ++ u16 o.pass ++ u16 o.frame ++ u16 o.shot
        ++ [13, 12, 11, 10, 9, 8, 7, 6, 5, 4, 3, 2, 1, 0].map (fun i => BitVec.ofNat 8 (packed / 256 ^ i))
        ++ u32 o.issued.seconds ++ u8 (o.issued.micros / 65536) ++ u16 o.issued.micros ++ u16 (o.deadline - now))
    ∧ (∀ x : Station, x.bytes =
      u8 (match x.state with | .offline => 0 | _ => 1) ++ u8 x.mask.toNat
        ++ (match x.state with
          | .offline => u8 0 ++ u16 65535
          | .idle => u8 1 ++ u16 65535
          | .working e => u8 2 ++ u16 e.defect))
    ∧ (∀ i : Incident, i.bytes =
      u8 i.cause.code ++ u32 i.time.seconds ++ u32 i.time.micros ++ u8 1 ++ u48 i.runCounter ++ u8 1 ++ u16 i.head
        ++ u16 (match i.pass with | some n => n | none => 0) ++ u16 i.feed ++ u16 i.takeUp ++ u16 i.integrator
        ++ u8 i.retries ++ u16 i.shrinkage)
    ∧ [DecayClass.a, .b, .c, .d].map (·.code) = List.range 4
    ∧ [Zone.cold, .frozen, .isolation, .workroom].map (·.code) = List.range 4
    ∧ (∀ n m k t, [ReelState.shelved n, .outbound m, .acclimatizing t, .ready, .loaded, .hold, .returning k].map (·.code)
      = List.range 7)
    ∧ (∀ a b, [SlotState.free, .reserved a, .occupied b, .closed].map (·.code) = List.range 4)
    ∧ [TransportState.empty, .threading, .stopped, .winding, .running, .limiting, .relaxing, .fault].map (·.code)
      = List.range 8
    ∧ [FaultCause.strain, .slip, .track, .break, .thread].map (·.code) = List.range 5
    ∧ [SlipWatch.inactive, .armed, .timing, .spent].map (·.code) = List.range 4
    ∧ [DefectKind.perfDamage, .perfMissing, .splice, .tear, .warp, .dust, .scratch, .scanGap].map (·.code)
      = List.range 8
    ∧ (∀ p q n, [DefectState.found, .queued p, .assigned q n, .repaired, .waived, .deferred].map (·.code)
      = List.range 6)
    ∧ [Origin.tracker, .pipeline, .transport, .host].map (·.code) = List.range 4
    ∧ [Priority.p0, .p1, .p2, .p3].map (·.code) = List.range 4
    ∧ [NoticeKind.reelReady, .reelHeld, .slotOffered, .misplaced, .conditionRaised, .passEnded, .threadResult,
        .transportFault, .strainWarning, .slipSeen, .captureLost, .staleReport, .mapFull, .queueRefused, .clipRisk].map
      (·.code) = List.range 15
    ∧ [Gauge.g35, .g16].map (·.code) = List.range 2 ∧ [FadeMode.auto, .fixed, .off].map (·.code) = List.range 3
    ∧ [SlipAction.stop, .report].map (·.code) = List.range 2
    ∧ [Status.ok, .okClamped, .unknownKind, .badLength, .badValue, .notFound, .wrongState, .full, .busy, .nothing,
        .tooLate, .notReady, .condition, .stillActive, .locked, .openWork].map (·.code) = List.range 16
    ∧ ∀ n : Nat, (∀ k : DefectKind, DefectKind.ofCode n = some k ↔ k.code = n)
      ∧ (∀ k : Priority, Priority.ofCode n = some k ↔ k.code = n) ∧ (∀ k : Gauge, Gauge.ofCode n = some k ↔ k.code = n)
      ∧ (∀ k : DecayClass, DecayClass.ofCode n = some k ↔ k.code = n) ∧ (∀ k : Zone, Zone.ofCode n = some k ↔ k.code = n)
      ∧ (∀ k : FadeMode, FadeMode.ofCode n = some k ↔ k.code = n)
      ∧ (∀ k : SlipAction, SlipAction.ofCode n = some k ↔ k.code = n)
      ∧ RetryPolicy.ofCode n
        = if n = 0 then some .never else if n ≤ 7 then some (.count n) else if n = 8 then some .unlimited else none)

/-! ### Invariants: each kept by every command, from every state that has it -/

/-- FIFO and reply queue hold at most 4, a request waits only while the reply queue is full, a reply in progress is
queued, an overrun during a reply has left the lost flag set (log 19), and the parser holds a frame not yet whole (R172
to R174, R176). -/
def Obligations.LinkInvariantIsKept : Prop :=
  ∀ (c : Instr) (s t : State), s.LinkInv → exec c s = .next t → t.LinkInv

/-- The notice list holds at most 32 records, no two of one kind and subject (R160), and every live counter stays
within 16 bits (R165). -/
def Obligations.NoticesAndCountersStayInBounds : Prop :=
  ∀ (c : Instr) (s t : State), exec c s = .next t →
    (s.dev.nl.Inv → t.dev.nl.Inv) ∧ (s.dev.counters.Inv → t.dev.counters.Inv)

/-- No two records share an id, at most 256 are held, at most one is LOADED, and the hold queue holds exactly the reels
in HOLD, each once (R1, R11, R31). The passes remaining of every reel stay within 0 to 15 (R17). -/
def Obligations.CatalogueInvariantIsKept : Prop :=
  ∀ (c : Instr) (s t : State), exec c s = .next t →
    (s.dev.CatalogueInv → t.dev.CatalogueInv) ∧ (s.dev.PassesInv → t.dev.PassesInv)

/-- A reel holds a slot exactly when its state says so, and each such slot names its reel (R22). -/
def Obligations.SlotInvariantIsKept : Prop :=
  ∀ (c : Instr) (s t : State), s.dev.CatalogueInv → s.dev.SlotInv → exec c s = .next t → t.dev.SlotInv

/-- With no reel LOADED nothing of a session stands: transport EMPTY, no tracker, orders, defects, shots, statistics,
entries, undo records or working stations; with one there is a tracker (R11, 4.1, R71). It is kept where the catalogue's
and TC's own invariants hold. The work of a session stays in order where the catalogue's invariant holds: each record's
id is its place in the map, of at most 1024 (R103); the queues hold each QUEUED defect once, at its record's priority,
and no other, and a defect is ASSIGNED exactly when the station it names is WORKING on it, with at most 192 entries in
use (R120, R122, R124, R126); the undo stack holds at most 16 records, of distinct REPAIRED defects (R132); the shots,
at most 512, rise strictly from frame 0, and there is one exactly while a reel is LOADED (R140). -/
def Obligations.SessionInvariantIsKept : Prop :=
  ∀ (c : Instr) (s t : State), s.dev.CatalogueInv → exec c s = .next t →
    (s.dev.tc.Inv → s.dev.SessionInv → t.dev.SessionInv) ∧ (s.dev.WorkInv → t.dev.WorkInv)

/-- At most 8 orders are outstanding, no two with one tag, and fewer than 8 gaps in a row are counted (R86, R88, R91).
An order waits at the pipeline's sender only behind a frame in progress, and the port's parser holds a frame not yet
whole (R178, R179). -/
def Obligations.CaptureInvariantIsKept : Prop :=
  ∀ (c : Instr) (s t : State), exec c s = .next t →
    (s.dev.cu.Inv → t.dev.cu.Inv) ∧ (s.dev.pipe.Inv → t.dev.pipe.Inv)

/-- What is present in each state of TC stays as its rules say: remembered state, cause, pass, pending end, leg,
deadlines, warning line and slip watch, and the integrator within its top (R47, R57, R59, R61 to R63, R65). -/
def Obligations.TransportInvariantIsKept : Prop :=
  ∀ (c : Instr) (s t : State), s.dev.tc.Inv → exec c s = .next t → t.dev.tc.Inv
end

