-- ==== Sys2Proof/Laws/State.lean ====
section
/-! SUPPORT. One lemma per field per update of the device: what an update leaves, and what it gives. -/

namespace Sys2Proof.Machine

@[simp] theorem Device.count_reels (d : Device) (k : Counter) : (d.count k).reels = d.reels := rfl
@[simp] theorem Device.count_vault (d : Device) (k : Counter) : (d.count k).vault = d.vault := rfl
@[simp] theorem Device.count_time (d : Device) (k : Counter) : (d.count k).time = d.time := rfl
@[simp] theorem Device.count_tc (d : Device) (k : Counter) : (d.count k).tc = d.tc := rfl
@[simp] theorem Device.count_pt (d : Device) (k : Counter) : (d.count k).pt = d.pt := rfl
@[simp] theorem Device.count_capstan (d : Device) (k : Counter) : (d.count k).capstan = d.capstan := rfl
@[simp] theorem Device.count_cu (d : Device) (k : Counter) : (d.count k).cu = d.cu := rfl
@[simp] theorem Device.count_dm (d : Device) (k : Counter) : (d.count k).dm = d.dm := rfl
@[simp] theorem Device.count_rq (d : Device) (k : Counter) : (d.count k).rq = d.rq := rfl
@[simp] theorem Device.count_gu (d : Device) (k : Counter) : (d.count k).gu = d.gu := rfl
@[simp] theorem Device.count_nl (d : Device) (k : Counter) : (d.count k).nl = d.nl := rfl
@[simp] theorem Device.count_counters (d : Device) (k : Counter) : (d.count k).counters = d.counters.bump k := rfl
@[simp] theorem Device.count_snapshot (d : Device) (k : Counter) : (d.count k).snapshot = d.snapshot := rfl
@[simp] theorem Device.count_pipe (d : Device) (k : Counter) : (d.count k).pipe = d.pipe := rfl
@[simp] theorem Device.count_freeDraws (d : Device) (k : Counter) : (d.count k).freeDraws = d.freeDraws := rfl

@[simp] theorem Device.post_reels (d : Device) (kind : NoticeKind) (subject detail : Nat) : (d.post kind subject detail).reels = d.reels := rfl
@[simp] theorem Device.post_vault (d : Device) (kind : NoticeKind) (subject detail : Nat) : (d.post kind subject detail).vault = d.vault := rfl
@[simp] theorem Device.post_time (d : Device) (kind : NoticeKind) (subject detail : Nat) : (d.post kind subject detail).time = d.time := rfl
@[simp] theorem Device.post_tc (d : Device) (kind : NoticeKind) (subject detail : Nat) : (d.post kind subject detail).tc = d.tc := rfl
@[simp] theorem Device.post_pt (d : Device) (kind : NoticeKind) (subject detail : Nat) : (d.post kind subject detail).pt = d.pt := rfl
@[simp] theorem Device.post_capstan (d : Device) (kind : NoticeKind) (subject detail : Nat) : (d.post kind subject detail).capstan = d.capstan := rfl
@[simp] theorem Device.post_cu (d : Device) (kind : NoticeKind) (subject detail : Nat) : (d.post kind subject detail).cu = d.cu := rfl
@[simp] theorem Device.post_dm (d : Device) (kind : NoticeKind) (subject detail : Nat) : (d.post kind subject detail).dm = d.dm := rfl
@[simp] theorem Device.post_rq (d : Device) (kind : NoticeKind) (subject detail : Nat) : (d.post kind subject detail).rq = d.rq := rfl
@[simp] theorem Device.post_gu (d : Device) (kind : NoticeKind) (subject detail : Nat) : (d.post kind subject detail).gu = d.gu := rfl
@[simp] theorem Device.post_nl (d : Device) (kind : NoticeKind) (subject detail : Nat) : (d.post kind subject detail).nl = d.nl.post d.time.clock kind subject detail := rfl
@[simp] theorem Device.post_counters (d : Device) (kind : NoticeKind) (subject detail : Nat) : (d.post kind subject detail).counters = d.counters := rfl
@[simp] theorem Device.post_snapshot (d : Device) (kind : NoticeKind) (subject detail : Nat) : (d.post kind subject detail).snapshot = d.snapshot := rfl
@[simp] theorem Device.post_pipe (d : Device) (kind : NoticeKind) (subject detail : Nat) : (d.post kind subject detail).pipe = d.pipe := rfl
@[simp] theorem Device.post_freeDraws (d : Device) (kind : NoticeKind) (subject detail : Nat) : (d.post kind subject detail).freeDraws = d.freeDraws := rfl

@[simp] theorem Device.setReel_reels (d : Device) (id : Nat) (f : Reel → Reel) : (d.setReel id f).reels = (d.reels.map fun r => if r.id = id then f r else r) := rfl
@[simp] theorem Device.setReel_vault (d : Device) (id : Nat) (f : Reel → Reel) : (d.setReel id f).vault = d.vault := rfl
@[simp] theorem Device.setReel_time (d : Device) (id : Nat) (f : Reel → Reel) : (d.setReel id f).time = d.time := rfl
@[simp] theorem Device.setReel_tc (d : Device) (id : Nat) (f : Reel → Reel) : (d.setReel id f).tc = d.tc := rfl
@[simp] theorem Device.setReel_pt (d : Device) (id : Nat) (f : Reel → Reel) : (d.setReel id f).pt = d.pt := rfl
@[simp] theorem Device.setReel_capstan (d : Device) (id : Nat) (f : Reel → Reel) : (d.setReel id f).capstan = d.capstan := rfl
@[simp] theorem Device.setReel_cu (d : Device) (id : Nat) (f : Reel → Reel) : (d.setReel id f).cu = d.cu := rfl
@[simp] theorem Device.setReel_dm (d : Device) (id : Nat) (f : Reel → Reel) : (d.setReel id f).dm = d.dm := rfl
@[simp] theorem Device.setReel_rq (d : Device) (id : Nat) (f : Reel → Reel) : (d.setReel id f).rq = d.rq := rfl
@[simp] theorem Device.setReel_gu (d : Device) (id : Nat) (f : Reel → Reel) : (d.setReel id f).gu = d.gu := rfl
@[simp] theorem Device.setReel_nl (d : Device) (id : Nat) (f : Reel → Reel) : (d.setReel id f).nl = d.nl := rfl
@[simp] theorem Device.setReel_counters (d : Device) (id : Nat) (f : Reel → Reel) : (d.setReel id f).counters = d.counters := rfl
@[simp] theorem Device.setReel_snapshot (d : Device) (id : Nat) (f : Reel → Reel) : (d.setReel id f).snapshot = d.snapshot := rfl
@[simp] theorem Device.setReel_pipe (d : Device) (id : Nat) (f : Reel → Reel) : (d.setReel id f).pipe = d.pipe := rfl
@[simp] theorem Device.setReel_freeDraws (d : Device) (id : Nat) (f : Reel → Reel) : (d.setReel id f).freeDraws = d.freeDraws := rfl

@[simp] theorem Device.deleteReel_reels (d : Device) (id : Nat) : (d.deleteReel id).reels = (d.reels.filter fun r => decide (r.id ≠ id)) := rfl
@[simp] theorem Device.deleteReel_vault (d : Device) (id : Nat) : (d.deleteReel id).vault = d.vault := rfl
@[simp] theorem Device.deleteReel_time (d : Device) (id : Nat) : (d.deleteReel id).time = d.time := rfl
@[simp] theorem Device.deleteReel_tc (d : Device) (id : Nat) : (d.deleteReel id).tc = d.tc := rfl
@[simp] theorem Device.deleteReel_pt (d : Device) (id : Nat) : (d.deleteReel id).pt = d.pt := rfl
@[simp] theorem Device.deleteReel_capstan (d : Device) (id : Nat) : (d.deleteReel id).capstan = d.capstan := rfl
@[simp] theorem Device.deleteReel_cu (d : Device) (id : Nat) : (d.deleteReel id).cu = d.cu := rfl
@[simp] theorem Device.deleteReel_dm (d : Device) (id : Nat) : (d.deleteReel id).dm = d.dm := rfl
@[simp] theorem Device.deleteReel_rq (d : Device) (id : Nat) : (d.deleteReel id).rq = d.rq := rfl
@[simp] theorem Device.deleteReel_gu (d : Device) (id : Nat) : (d.deleteReel id).gu = d.gu := rfl
@[simp] theorem Device.deleteReel_nl (d : Device) (id : Nat) : (d.deleteReel id).nl = d.nl := rfl
@[simp] theorem Device.deleteReel_counters (d : Device) (id : Nat) : (d.deleteReel id).counters = d.counters := rfl
@[simp] theorem Device.deleteReel_snapshot (d : Device) (id : Nat) : (d.deleteReel id).snapshot = d.snapshot := rfl
@[simp] theorem Device.deleteReel_pipe (d : Device) (id : Nat) : (d.deleteReel id).pipe = d.pipe := rfl
@[simp] theorem Device.deleteReel_freeDraws (d : Device) (id : Nat) : (d.deleteReel id).freeDraws = d.freeDraws := rfl

@[simp] theorem Device.setSlot_reels (d : Device) (n : Nat) (v : SlotState) : (d.setSlot n v).reels = d.reels := rfl
@[simp] theorem Device.setSlot_vault (d : Device) (n : Nat) (v : SlotState) : (d.setSlot n v).vault = { d.vault with slots := d.vault.slots.setIfInBounds n v } := rfl
@[simp] theorem Device.setSlot_time (d : Device) (n : Nat) (v : SlotState) : (d.setSlot n v).time = d.time := rfl
@[simp] theorem Device.setSlot_tc (d : Device) (n : Nat) (v : SlotState) : (d.setSlot n v).tc = d.tc := rfl
@[simp] theorem Device.setSlot_pt (d : Device) (n : Nat) (v : SlotState) : (d.setSlot n v).pt = d.pt := rfl
@[simp] theorem Device.setSlot_capstan (d : Device) (n : Nat) (v : SlotState) : (d.setSlot n v).capstan = d.capstan := rfl
@[simp] theorem Device.setSlot_cu (d : Device) (n : Nat) (v : SlotState) : (d.setSlot n v).cu = d.cu := rfl
@[simp] theorem Device.setSlot_dm (d : Device) (n : Nat) (v : SlotState) : (d.setSlot n v).dm = d.dm := rfl
@[simp] theorem Device.setSlot_rq (d : Device) (n : Nat) (v : SlotState) : (d.setSlot n v).rq = d.rq := rfl
@[simp] theorem Device.setSlot_gu (d : Device) (n : Nat) (v : SlotState) : (d.setSlot n v).gu = d.gu := rfl
@[simp] theorem Device.setSlot_nl (d : Device) (n : Nat) (v : SlotState) : (d.setSlot n v).nl = d.nl := rfl
@[simp] theorem Device.setSlot_counters (d : Device) (n : Nat) (v : SlotState) : (d.setSlot n v).counters = d.counters := rfl
@[simp] theorem Device.setSlot_snapshot (d : Device) (n : Nat) (v : SlotState) : (d.setSlot n v).snapshot = d.snapshot := rfl
@[simp] theorem Device.setSlot_pipe (d : Device) (n : Nat) (v : SlotState) : (d.setSlot n v).pipe = d.pipe := rfl
@[simp] theorem Device.setSlot_freeDraws (d : Device) (n : Nat) (v : SlotState) : (d.setSlot n v).freeDraws = d.freeDraws := rfl

@[simp] theorem Device.freeSlot_reels (d : Device) (n : Nat) : (d.freeSlot n).reels = d.reels := rfl
@[simp] theorem Device.freeSlot_vault (d : Device) (n : Nat) : (d.freeSlot n).vault = { d.vault with slots := d.vault.slots.setIfInBounds n .free } := rfl
@[simp] theorem Device.freeSlot_time (d : Device) (n : Nat) : (d.freeSlot n).time = d.time := rfl
@[simp] theorem Device.freeSlot_tc (d : Device) (n : Nat) : (d.freeSlot n).tc = d.tc := rfl
@[simp] theorem Device.freeSlot_pt (d : Device) (n : Nat) : (d.freeSlot n).pt = d.pt := rfl
@[simp] theorem Device.freeSlot_capstan (d : Device) (n : Nat) : (d.freeSlot n).capstan = d.capstan := rfl
@[simp] theorem Device.freeSlot_cu (d : Device) (n : Nat) : (d.freeSlot n).cu = d.cu := rfl
@[simp] theorem Device.freeSlot_dm (d : Device) (n : Nat) : (d.freeSlot n).dm = d.dm := rfl
@[simp] theorem Device.freeSlot_rq (d : Device) (n : Nat) : (d.freeSlot n).rq = d.rq := rfl
@[simp] theorem Device.freeSlot_gu (d : Device) (n : Nat) : (d.freeSlot n).gu = d.gu := rfl
@[simp] theorem Device.freeSlot_nl (d : Device) (n : Nat) : (d.freeSlot n).nl = d.nl := rfl
@[simp] theorem Device.freeSlot_counters (d : Device) (n : Nat) : (d.freeSlot n).counters = d.counters := rfl
@[simp] theorem Device.freeSlot_snapshot (d : Device) (n : Nat) : (d.freeSlot n).snapshot = d.snapshot := rfl
@[simp] theorem Device.freeSlot_pipe (d : Device) (n : Nat) : (d.freeSlot n).pipe = d.pipe := rfl
@[simp] theorem Device.freeSlot_freeDraws (d : Device) (n : Nat) : (d.freeSlot n).freeDraws = d.freeDraws := rfl

@[simp] theorem Device.setDefect_reels (d : Device) (id : Nat) (f : Defect → Defect) : (d.setDefect id f).reels = d.reels := rfl
@[simp] theorem Device.setDefect_vault (d : Device) (id : Nat) (f : Defect → Defect) : (d.setDefect id f).vault = d.vault := rfl
@[simp] theorem Device.setDefect_time (d : Device) (id : Nat) (f : Defect → Defect) : (d.setDefect id f).time = d.time := rfl
@[simp] theorem Device.setDefect_tc (d : Device) (id : Nat) (f : Defect → Defect) : (d.setDefect id f).tc = d.tc := rfl
@[simp] theorem Device.setDefect_pt (d : Device) (id : Nat) (f : Defect → Defect) : (d.setDefect id f).pt = d.pt := rfl
@[simp] theorem Device.setDefect_capstan (d : Device) (id : Nat) (f : Defect → Defect) : (d.setDefect id f).capstan = d.capstan := rfl
@[simp] theorem Device.setDefect_cu (d : Device) (id : Nat) (f : Defect → Defect) : (d.setDefect id f).cu = d.cu := rfl
@[simp] theorem Device.setDefect_dm (d : Device) (id : Nat) (f : Defect → Defect) : (d.setDefect id f).dm = { d.dm with records := d.dm.records.map fun r => if r.id = id then f r else r } := rfl
@[simp] theorem Device.setDefect_rq (d : Device) (id : Nat) (f : Defect → Defect) : (d.setDefect id f).rq = d.rq := rfl
@[simp] theorem Device.setDefect_gu (d : Device) (id : Nat) (f : Defect → Defect) : (d.setDefect id f).gu = d.gu := rfl
@[simp] theorem Device.setDefect_nl (d : Device) (id : Nat) (f : Defect → Defect) : (d.setDefect id f).nl = d.nl := rfl
@[simp] theorem Device.setDefect_counters (d : Device) (id : Nat) (f : Defect → Defect) : (d.setDefect id f).counters = d.counters := rfl
@[simp] theorem Device.setDefect_snapshot (d : Device) (id : Nat) (f : Defect → Defect) : (d.setDefect id f).snapshot = d.snapshot := rfl
@[simp] theorem Device.setDefect_pipe (d : Device) (id : Nat) (f : Defect → Defect) : (d.setDefect id f).pipe = d.pipe := rfl
@[simp] theorem Device.setDefect_freeDraws (d : Device) (id : Nat) (f : Defect → Defect) : (d.setDefect id f).freeDraws = d.freeDraws := rfl

@[simp] theorem Device.resolveGaps_reels (d : Device) (frame : Nat) : (d.resolveGaps frame).reels = d.reels := rfl
@[simp] theorem Device.resolveGaps_vault (d : Device) (frame : Nat) : (d.resolveGaps frame).vault = d.vault := rfl
@[simp] theorem Device.resolveGaps_time (d : Device) (frame : Nat) : (d.resolveGaps frame).time = d.time := rfl
@[simp] theorem Device.resolveGaps_tc (d : Device) (frame : Nat) : (d.resolveGaps frame).tc = d.tc := rfl
@[simp] theorem Device.resolveGaps_pt (d : Device) (frame : Nat) : (d.resolveGaps frame).pt = d.pt := rfl
@[simp] theorem Device.resolveGaps_capstan (d : Device) (frame : Nat) : (d.resolveGaps frame).capstan = d.capstan := rfl
@[simp] theorem Device.resolveGaps_cu (d : Device) (frame : Nat) : (d.resolveGaps frame).cu = d.cu := rfl
@[simp] theorem Device.resolveGaps_rq (d : Device) (frame : Nat) : (d.resolveGaps frame).rq = d.rq := rfl
@[simp] theorem Device.resolveGaps_gu (d : Device) (frame : Nat) : (d.resolveGaps frame).gu = d.gu := rfl
@[simp] theorem Device.resolveGaps_nl (d : Device) (frame : Nat) : (d.resolveGaps frame).nl = d.nl := rfl
@[simp] theorem Device.resolveGaps_counters (d : Device) (frame : Nat) : (d.resolveGaps frame).counters = d.counters := rfl
@[simp] theorem Device.resolveGaps_snapshot (d : Device) (frame : Nat) : (d.resolveGaps frame).snapshot = d.snapshot := rfl
@[simp] theorem Device.resolveGaps_pipe (d : Device) (frame : Nat) : (d.resolveGaps frame).pipe = d.pipe := rfl
@[simp] theorem Device.resolveGaps_freeDraws (d : Device) (frame : Nat) : (d.resolveGaps frame).freeDraws = d.freeDraws := rfl

@[simp] theorem Device.deferOpenWork_reels (d : Device) : (d.deferOpenWork).reels = d.reels := rfl
@[simp] theorem Device.deferOpenWork_vault (d : Device) : (d.deferOpenWork).vault = d.vault := rfl
@[simp] theorem Device.deferOpenWork_time (d : Device) : (d.deferOpenWork).time = d.time := rfl
@[simp] theorem Device.deferOpenWork_tc (d : Device) : (d.deferOpenWork).tc = d.tc := rfl
@[simp] theorem Device.deferOpenWork_pt (d : Device) : (d.deferOpenWork).pt = d.pt := rfl
@[simp] theorem Device.deferOpenWork_capstan (d : Device) : (d.deferOpenWork).capstan = d.capstan := rfl
@[simp] theorem Device.deferOpenWork_cu (d : Device) : (d.deferOpenWork).cu = d.cu := rfl
@[simp] theorem Device.deferOpenWork_rq (d : Device) : (d.deferOpenWork).rq = d.rq := rfl
@[simp] theorem Device.deferOpenWork_gu (d : Device) : (d.deferOpenWork).gu = d.gu := rfl
@[simp] theorem Device.deferOpenWork_nl (d : Device) : (d.deferOpenWork).nl = d.nl := rfl
@[simp] theorem Device.deferOpenWork_counters (d : Device) : (d.deferOpenWork).counters = d.counters := rfl
@[simp] theorem Device.deferOpenWork_snapshot (d : Device) : (d.deferOpenWork).snapshot = d.snapshot := rfl
@[simp] theorem Device.deferOpenWork_pipe (d : Device) : (d.deferOpenWork).pipe = d.pipe := rfl
@[simp] theorem Device.deferOpenWork_freeDraws (d : Device) : (d.deferOpenWork).freeDraws = d.freeDraws := rfl

@[simp] theorem Device.appendEntry_reels (d : Device) (p : Priority) (e : Entry) : (d.appendEntry p e).reels = d.reels := rfl
@[simp] theorem Device.appendEntry_vault (d : Device) (p : Priority) (e : Entry) : (d.appendEntry p e).vault = d.vault := rfl
@[simp] theorem Device.appendEntry_time (d : Device) (p : Priority) (e : Entry) : (d.appendEntry p e).time = d.time := rfl
@[simp] theorem Device.appendEntry_tc (d : Device) (p : Priority) (e : Entry) : (d.appendEntry p e).tc = d.tc := rfl
@[simp] theorem Device.appendEntry_pt (d : Device) (p : Priority) (e : Entry) : (d.appendEntry p e).pt = d.pt := rfl
@[simp] theorem Device.appendEntry_capstan (d : Device) (p : Priority) (e : Entry) : (d.appendEntry p e).capstan = d.capstan := rfl
@[simp] theorem Device.appendEntry_cu (d : Device) (p : Priority) (e : Entry) : (d.appendEntry p e).cu = d.cu := rfl
@[simp] theorem Device.appendEntry_dm (d : Device) (p : Priority) (e : Entry) : (d.appendEntry p e).dm = d.dm := rfl
@[simp] theorem Device.appendEntry_gu (d : Device) (p : Priority) (e : Entry) : (d.appendEntry p e).gu = d.gu := rfl
@[simp] theorem Device.appendEntry_nl (d : Device) (p : Priority) (e : Entry) : (d.appendEntry p e).nl = d.nl := rfl
@[simp] theorem Device.appendEntry_counters (d : Device) (p : Priority) (e : Entry) : (d.appendEntry p e).counters = d.counters := rfl
@[simp] theorem Device.appendEntry_snapshot (d : Device) (p : Priority) (e : Entry) : (d.appendEntry p e).snapshot = d.snapshot := rfl
@[simp] theorem Device.appendEntry_pipe (d : Device) (p : Priority) (e : Entry) : (d.appendEntry p e).pipe = d.pipe := rfl
@[simp] theorem Device.appendEntry_freeDraws (d : Device) (p : Priority) (e : Entry) : (d.appendEntry p e).freeDraws = d.freeDraws := rfl

@[simp] theorem Device.frontEntry_reels (d : Device) (p : Priority) (e : Entry) : (d.frontEntry p e).reels = d.reels := rfl
@[simp] theorem Device.frontEntry_vault (d : Device) (p : Priority) (e : Entry) : (d.frontEntry p e).vault = d.vault := rfl
@[simp] theorem Device.frontEntry_time (d : Device) (p : Priority) (e : Entry) : (d.frontEntry p e).time = d.time := rfl
@[simp] theorem Device.frontEntry_tc (d : Device) (p : Priority) (e : Entry) : (d.frontEntry p e).tc = d.tc := rfl
@[simp] theorem Device.frontEntry_pt (d : Device) (p : Priority) (e : Entry) : (d.frontEntry p e).pt = d.pt := rfl
@[simp] theorem Device.frontEntry_capstan (d : Device) (p : Priority) (e : Entry) : (d.frontEntry p e).capstan = d.capstan := rfl
@[simp] theorem Device.frontEntry_cu (d : Device) (p : Priority) (e : Entry) : (d.frontEntry p e).cu = d.cu := rfl
@[simp] theorem Device.frontEntry_dm (d : Device) (p : Priority) (e : Entry) : (d.frontEntry p e).dm = d.dm := rfl
@[simp] theorem Device.frontEntry_gu (d : Device) (p : Priority) (e : Entry) : (d.frontEntry p e).gu = d.gu := rfl
@[simp] theorem Device.frontEntry_nl (d : Device) (p : Priority) (e : Entry) : (d.frontEntry p e).nl = d.nl := rfl
@[simp] theorem Device.frontEntry_counters (d : Device) (p : Priority) (e : Entry) : (d.frontEntry p e).counters = d.counters := rfl
@[simp] theorem Device.frontEntry_snapshot (d : Device) (p : Priority) (e : Entry) : (d.frontEntry p e).snapshot = d.snapshot := rfl
@[simp] theorem Device.frontEntry_pipe (d : Device) (p : Priority) (e : Entry) : (d.frontEntry p e).pipe = d.pipe := rfl
@[simp] theorem Device.frontEntry_freeDraws (d : Device) (p : Priority) (e : Entry) : (d.frontEntry p e).freeDraws = d.freeDraws := rfl

@[simp] theorem Device.dropEntry_reels (d : Device) (p : Priority) (defect : Nat) : (d.dropEntry p defect).reels = d.reels := rfl
@[simp] theorem Device.dropEntry_vault (d : Device) (p : Priority) (defect : Nat) : (d.dropEntry p defect).vault = d.vault := rfl
@[simp] theorem Device.dropEntry_time (d : Device) (p : Priority) (defect : Nat) : (d.dropEntry p defect).time = d.time := rfl
@[simp] theorem Device.dropEntry_tc (d : Device) (p : Priority) (defect : Nat) : (d.dropEntry p defect).tc = d.tc := rfl
@[simp] theorem Device.dropEntry_pt (d : Device) (p : Priority) (defect : Nat) : (d.dropEntry p defect).pt = d.pt := rfl
@[simp] theorem Device.dropEntry_capstan (d : Device) (p : Priority) (defect : Nat) : (d.dropEntry p defect).capstan = d.capstan := rfl
@[simp] theorem Device.dropEntry_cu (d : Device) (p : Priority) (defect : Nat) : (d.dropEntry p defect).cu = d.cu := rfl
@[simp] theorem Device.dropEntry_dm (d : Device) (p : Priority) (defect : Nat) : (d.dropEntry p defect).dm = d.dm := rfl
@[simp] theorem Device.dropEntry_gu (d : Device) (p : Priority) (defect : Nat) : (d.dropEntry p defect).gu = d.gu := rfl
@[simp] theorem Device.dropEntry_nl (d : Device) (p : Priority) (defect : Nat) : (d.dropEntry p defect).nl = d.nl := rfl
@[simp] theorem Device.dropEntry_counters (d : Device) (p : Priority) (defect : Nat) : (d.dropEntry p defect).counters = d.counters := rfl
@[simp] theorem Device.dropEntry_snapshot (d : Device) (p : Priority) (defect : Nat) : (d.dropEntry p defect).snapshot = d.snapshot := rfl
@[simp] theorem Device.dropEntry_pipe (d : Device) (p : Priority) (defect : Nat) : (d.dropEntry p defect).pipe = d.pipe := rfl
@[simp] theorem Device.dropEntry_freeDraws (d : Device) (p : Priority) (defect : Nat) : (d.dropEntry p defect).freeDraws = d.freeDraws := rfl

@[simp] theorem Device.setStation_reels (d : Device) (n : Nat) (st : Station) : (d.setStation n st).reels = d.reels := rfl
@[simp] theorem Device.setStation_vault (d : Device) (n : Nat) (st : Station) : (d.setStation n st).vault = d.vault := rfl
@[simp] theorem Device.setStation_time (d : Device) (n : Nat) (st : Station) : (d.setStation n st).time = d.time := rfl
@[simp] theorem Device.setStation_tc (d : Device) (n : Nat) (st : Station) : (d.setStation n st).tc = d.tc := rfl
@[simp] theorem Device.setStation_pt (d : Device) (n : Nat) (st : Station) : (d.setStation n st).pt = d.pt := rfl
@[simp] theorem Device.setStation_capstan (d : Device) (n : Nat) (st : Station) : (d.setStation n st).capstan = d.capstan := rfl
@[simp] theorem Device.setStation_cu (d : Device) (n : Nat) (st : Station) : (d.setStation n st).cu = d.cu := rfl
@[simp] theorem Device.setStation_dm (d : Device) (n : Nat) (st : Station) : (d.setStation n st).dm = d.dm := rfl
@[simp] theorem Device.setStation_gu (d : Device) (n : Nat) (st : Station) : (d.setStation n st).gu = d.gu := rfl
@[simp] theorem Device.setStation_nl (d : Device) (n : Nat) (st : Station) : (d.setStation n st).nl = d.nl := rfl
@[simp] theorem Device.setStation_counters (d : Device) (n : Nat) (st : Station) : (d.setStation n st).counters = d.counters := rfl
@[simp] theorem Device.setStation_snapshot (d : Device) (n : Nat) (st : Station) : (d.setStation n st).snapshot = d.snapshot := rfl
@[simp] theorem Device.setStation_pipe (d : Device) (n : Nat) (st : Station) : (d.setStation n st).pipe = d.pipe := rfl
@[simp] theorem Device.setStation_freeDraws (d : Device) (n : Nat) (st : Station) : (d.setStation n st).freeDraws = d.freeDraws := rfl

@[simp] theorem Device.setTracker_reels (d : Device) (f : Tracker → Tracker) : (d.setTracker f).reels = d.reels := rfl
@[simp] theorem Device.setTracker_vault (d : Device) (f : Tracker → Tracker) : (d.setTracker f).vault = d.vault := rfl
@[simp] theorem Device.setTracker_time (d : Device) (f : Tracker → Tracker) : (d.setTracker f).time = d.time := rfl
@[simp] theorem Device.setTracker_tc (d : Device) (f : Tracker → Tracker) : (d.setTracker f).tc = d.tc := rfl
@[simp] theorem Device.setTracker_pt (d : Device) (f : Tracker → Tracker) : (d.setTracker f).pt = d.pt.map f := rfl
@[simp] theorem Device.setTracker_capstan (d : Device) (f : Tracker → Tracker) : (d.setTracker f).capstan = d.capstan := rfl
@[simp] theorem Device.setTracker_cu (d : Device) (f : Tracker → Tracker) : (d.setTracker f).cu = d.cu := rfl
@[simp] theorem Device.setTracker_dm (d : Device) (f : Tracker → Tracker) : (d.setTracker f).dm = d.dm := rfl
@[simp] theorem Device.setTracker_rq (d : Device) (f : Tracker → Tracker) : (d.setTracker f).rq = d.rq := rfl
@[simp] theorem Device.setTracker_gu (d : Device) (f : Tracker → Tracker) : (d.setTracker f).gu = d.gu := rfl
@[simp] theorem Device.setTracker_nl (d : Device) (f : Tracker → Tracker) : (d.setTracker f).nl = d.nl := rfl
@[simp] theorem Device.setTracker_counters (d : Device) (f : Tracker → Tracker) : (d.setTracker f).counters = d.counters := rfl
@[simp] theorem Device.setTracker_snapshot (d : Device) (f : Tracker → Tracker) : (d.setTracker f).snapshot = d.snapshot := rfl
@[simp] theorem Device.setTracker_pipe (d : Device) (f : Tracker → Tracker) : (d.setTracker f).pipe = d.pipe := rfl
@[simp] theorem Device.setTracker_freeDraws (d : Device) (f : Tracker → Tracker) : (d.setTracker f).freeDraws = d.freeDraws := rfl

@[simp] theorem Device.setShots_reels (d : Device) (shots : List Shot) : (d.setShots shots).reels = d.reels := rfl
@[simp] theorem Device.setShots_vault (d : Device) (shots : List Shot) : (d.setShots shots).vault = d.vault := rfl
@[simp] theorem Device.setShots_time (d : Device) (shots : List Shot) : (d.setShots shots).time = d.time := rfl
@[simp] theorem Device.setShots_tc (d : Device) (shots : List Shot) : (d.setShots shots).tc = d.tc := rfl
@[simp] theorem Device.setShots_pt (d : Device) (shots : List Shot) : (d.setShots shots).pt = d.pt := rfl
@[simp] theorem Device.setShots_capstan (d : Device) (shots : List Shot) : (d.setShots shots).capstan = d.capstan := rfl
@[simp] theorem Device.setShots_cu (d : Device) (shots : List Shot) : (d.setShots shots).cu = d.cu := rfl
@[simp] theorem Device.setShots_dm (d : Device) (shots : List Shot) : (d.setShots shots).dm = d.dm := rfl
@[simp] theorem Device.setShots_rq (d : Device) (shots : List Shot) : (d.setShots shots).rq = d.rq := rfl
@[simp] theorem Device.setShots_gu (d : Device) (shots : List Shot) : (d.setShots shots).gu = { d.gu with shots := shots } := rfl
@[simp] theorem Device.setShots_nl (d : Device) (shots : List Shot) : (d.setShots shots).nl = d.nl := rfl
@[simp] theorem Device.setShots_counters (d : Device) (shots : List Shot) : (d.setShots shots).counters = d.counters := rfl
@[simp] theorem Device.setShots_snapshot (d : Device) (shots : List Shot) : (d.setShots shots).snapshot = d.snapshot := rfl
@[simp] theorem Device.setShots_pipe (d : Device) (shots : List Shot) : (d.setShots shots).pipe = d.pipe := rfl
@[simp] theorem Device.setShots_freeDraws (d : Device) (shots : List Shot) : (d.setShots shots).freeDraws = d.freeDraws := rfl

@[simp] theorem Device.takeStatistics_reels (d : Device) (mean base : PerChannel Nat) : (d.takeStatistics mean base).reels = d.reels := rfl
@[simp] theorem Device.takeStatistics_vault (d : Device) (mean base : PerChannel Nat) : (d.takeStatistics mean base).vault = d.vault := rfl
@[simp] theorem Device.takeStatistics_time (d : Device) (mean base : PerChannel Nat) : (d.takeStatistics mean base).time = d.time := rfl
@[simp] theorem Device.takeStatistics_tc (d : Device) (mean base : PerChannel Nat) : (d.takeStatistics mean base).tc = d.tc := rfl
@[simp] theorem Device.takeStatistics_pt (d : Device) (mean base : PerChannel Nat) : (d.takeStatistics mean base).pt = d.pt := rfl
@[simp] theorem Device.takeStatistics_capstan (d : Device) (mean base : PerChannel Nat) : (d.takeStatistics mean base).capstan = d.capstan := rfl
@[simp] theorem Device.takeStatistics_cu (d : Device) (mean base : PerChannel Nat) : (d.takeStatistics mean base).cu = d.cu := rfl
@[simp] theorem Device.takeStatistics_dm (d : Device) (mean base : PerChannel Nat) : (d.takeStatistics mean base).dm = d.dm := rfl
@[simp] theorem Device.takeStatistics_rq (d : Device) (mean base : PerChannel Nat) : (d.takeStatistics mean base).rq = d.rq := rfl
@[simp] theorem Device.takeStatistics_nl (d : Device) (mean base : PerChannel Nat) : (d.takeStatistics mean base).nl = d.nl := rfl
@[simp] theorem Device.takeStatistics_counters (d : Device) (mean base : PerChannel Nat) : (d.takeStatistics mean base).counters = d.counters := rfl
@[simp] theorem Device.takeStatistics_snapshot (d : Device) (mean base : PerChannel Nat) : (d.takeStatistics mean base).snapshot = d.snapshot := rfl
@[simp] theorem Device.takeStatistics_pipe (d : Device) (mean base : PerChannel Nat) : (d.takeStatistics mean base).pipe = d.pipe := rfl
@[simp] theorem Device.takeStatistics_freeDraws (d : Device) (mean base : PerChannel Nat) : (d.takeStatistics mean base).freeDraws = d.freeDraws := rfl

@[simp] theorem Device.discardOrders_reels (d : Device) : (d.discardOrders).reels = d.reels := rfl
@[simp] theorem Device.discardOrders_vault (d : Device) : (d.discardOrders).vault = d.vault := rfl
@[simp] theorem Device.discardOrders_time (d : Device) : (d.discardOrders).time = d.time := rfl
@[simp] theorem Device.discardOrders_tc (d : Device) : (d.discardOrders).tc = d.tc := rfl
@[simp] theorem Device.discardOrders_pt (d : Device) : (d.discardOrders).pt = d.pt := rfl
@[simp] theorem Device.discardOrders_capstan (d : Device) : (d.discardOrders).capstan = d.capstan := rfl
@[simp] theorem Device.discardOrders_cu (d : Device) : (d.discardOrders).cu = { d.cu with orders := [], gaps := 0 } := rfl
@[simp] theorem Device.discardOrders_dm (d : Device) : (d.discardOrders).dm = d.dm := rfl
@[simp] theorem Device.discardOrders_rq (d : Device) : (d.discardOrders).rq = d.rq := rfl
@[simp] theorem Device.discardOrders_gu (d : Device) : (d.discardOrders).gu = d.gu := rfl
@[simp] theorem Device.discardOrders_nl (d : Device) : (d.discardOrders).nl = d.nl := rfl
@[simp] theorem Device.discardOrders_counters (d : Device) : (d.discardOrders).counters = d.counters := rfl
@[simp] theorem Device.discardOrders_snapshot (d : Device) : (d.discardOrders).snapshot = d.snapshot := rfl
@[simp] theorem Device.discardOrders_pipe (d : Device) : (d.discardOrders).pipe = d.pipe := rfl
@[simp] theorem Device.discardOrders_freeDraws (d : Device) : (d.discardOrders).freeDraws = d.freeDraws := rfl

/-! ### The state of the whole -/

@[simp] theorem State.answered_pending (s : State) (tag : Byte) (k : Kind) (d : Device) (st : Status) (b : List Byte) :
    (s.answered tag k d st b).pending = s.pending := rfl
@[simp] theorem State.answered_dev (s : State) (tag : Byte) (k : Kind) (d : Device) (st : Status) (b : List Byte) :
    (s.answered tag k d st b).dev = d := rfl
@[simp] theorem State.answered_replies (s : State) (tag : Byte) (k : Kind) (d : Device) (st : Status) (b : List Byte) :
    (s.answered tag k d st b).link.replies
      = s.link.replies ++ [{ tag, kind := k.code, answer := { status := st, body := b } }] := rfl

end Sys2Proof.Machine
end

