-- ==== Sys2Proof/Laws/Frames.lean ====
section
/-! SUPPORT. Frames of the shared operations: one lemma for each field of the device that an operation leaves as it
was. What is absent from the list of an operation is what it may change. -/

namespace Sys2Proof.Machine

@[simp] theorem Device.enqueue_frame (d : Device) (p : Priority) (r : Defect) :
    (d.enqueue p r).reels = d.reels ∧ (d.enqueue p r).vault = d.vault ∧ (d.enqueue p r).time = d.time
    ∧ (d.enqueue p r).tc = d.tc ∧ (d.enqueue p r).pt = d.pt ∧ (d.enqueue p r).capstan = d.capstan
    ∧ (d.enqueue p r).cu = d.cu ∧ (d.enqueue p r).gu = d.gu ∧ (d.enqueue p r).snapshot = d.snapshot
    ∧ (d.enqueue p r).pipe = d.pipe ∧ (d.enqueue p r).freeDraws = d.freeDraws := by
  simp only [Device.enqueue]
  repeat' split
  all_goals simp

@[simp] theorem Device.autoQueue_frame (d : Device) (id : Nat) :
    (d.autoQueue id).reels = d.reels ∧ (d.autoQueue id).vault = d.vault ∧ (d.autoQueue id).time = d.time
    ∧ (d.autoQueue id).tc = d.tc ∧ (d.autoQueue id).pt = d.pt ∧ (d.autoQueue id).capstan = d.capstan
    ∧ (d.autoQueue id).cu = d.cu ∧ (d.autoQueue id).gu = d.gu ∧ (d.autoQueue id).snapshot = d.snapshot
    ∧ (d.autoQueue id).pipe = d.pipe ∧ (d.autoQueue id).freeDraws = d.freeDraws := by
  simp only [Device.autoQueue]
  repeat' split
  all_goals simp

@[simp] theorem Device.record_frame (d : Device) (f : Finding) :
    (d.record f).1.reels = d.reels ∧ (d.record f).1.vault = d.vault ∧ (d.record f).1.time = d.time
    ∧ (d.record f).1.tc = d.tc ∧ (d.record f).1.pt = d.pt ∧ (d.record f).1.capstan = d.capstan
    ∧ (d.record f).1.cu = d.cu ∧ (d.record f).1.gu = d.gu ∧ (d.record f).1.snapshot = d.snapshot
    ∧ (d.record f).1.pipe = d.pipe ∧ (d.record f).1.freeDraws = d.freeDraws := by
  simp only [Device.record]
  repeat' split
  all_goals simp

@[simp] theorem Device.finding_frame (d : Device) (f : Finding) :
    (d.finding f).reels = d.reels ∧ (d.finding f).vault = d.vault ∧ (d.finding f).time = d.time
    ∧ (d.finding f).tc = d.tc ∧ (d.finding f).pt = d.pt ∧ (d.finding f).capstan = d.capstan
    ∧ (d.finding f).cu = d.cu ∧ (d.finding f).gu = d.gu ∧ (d.finding f).snapshot = d.snapshot
    ∧ (d.finding f).pipe = d.pipe ∧ (d.finding f).freeDraws = d.freeDraws := by
  simp only [Device.finding]
  repeat' split
  all_goals simp

@[simp] theorem Device.addRun_frame (f : Finding) (n : Nat) (d : Device) :
    (d.addRun f n).1.reels = d.reels ∧ (d.addRun f n).1.vault = d.vault ∧ (d.addRun f n).1.time = d.time
    ∧ (d.addRun f n).1.tc = d.tc ∧ (d.addRun f n).1.pt = d.pt ∧ (d.addRun f n).1.capstan = d.capstan
    ∧ (d.addRun f n).1.cu = d.cu ∧ (d.addRun f n).1.gu = d.gu ∧ (d.addRun f n).1.snapshot = d.snapshot
    ∧ (d.addRun f n).1.pipe = d.pipe ∧ (d.addRun f n).1.freeDraws = d.freeDraws := by
  induction n generalizing f d with
  | zero => simp [Device.addRun]
  | succ n ih => simp [Device.addRun, ih]

@[simp] theorem Device.endPass_frame (d : Device) (cause : PassEnd) (next : TransportState) :
    (d.endPass cause next).reels = d.reels ∧ (d.endPass cause next).vault = d.vault
    ∧ (d.endPass cause next).time = d.time ∧ (d.endPass cause next).pt = d.pt
    ∧ (d.endPass cause next).capstan = d.capstan ∧ (d.endPass cause next).cu = d.cu
    ∧ (d.endPass cause next).dm = d.dm ∧ (d.endPass cause next).rq = d.rq ∧ (d.endPass cause next).gu = d.gu
    ∧ (d.endPass cause next).counters = d.counters ∧ (d.endPass cause next).snapshot = d.snapshot
    ∧ (d.endPass cause next).pipe = d.pipe ∧ (d.endPass cause next).freeDraws = d.freeDraws := by
  simp only [Device.endPass]
  all_goals simp

@[simp] theorem Device.endRelaxing_frame (d : Device) (cause : PendingEnd) :
    (d.endRelaxing cause).reels = d.reels ∧ (d.endRelaxing cause).vault = d.vault
    ∧ (d.endRelaxing cause).time = d.time ∧ (d.endRelaxing cause).pt = d.pt
    ∧ (d.endRelaxing cause).capstan = d.capstan ∧ (d.endRelaxing cause).cu = d.cu ∧ (d.endRelaxing cause).dm = d.dm
    ∧ (d.endRelaxing cause).rq = d.rq ∧ (d.endRelaxing cause).gu = d.gu
    ∧ (d.endRelaxing cause).counters = d.counters ∧ (d.endRelaxing cause).snapshot = d.snapshot
    ∧ (d.endRelaxing cause).pipe = d.pipe ∧ (d.endRelaxing cause).freeDraws = d.freeDraws := by
  simp only [Device.endRelaxing]
  all_goals simp

@[simp] theorem Device.askEnd_frame (d : Device) (cause : PendingEnd) :
    (d.askEnd cause).reels = d.reels ∧ (d.askEnd cause).vault = d.vault ∧ (d.askEnd cause).time = d.time
    ∧ (d.askEnd cause).pt = d.pt ∧ (d.askEnd cause).capstan = d.capstan ∧ (d.askEnd cause).cu = d.cu
    ∧ (d.askEnd cause).dm = d.dm ∧ (d.askEnd cause).rq = d.rq ∧ (d.askEnd cause).gu = d.gu
    ∧ (d.askEnd cause).counters = d.counters ∧ (d.askEnd cause).snapshot = d.snapshot
    ∧ (d.askEnd cause).pipe = d.pipe ∧ (d.askEnd cause).freeDraws = d.freeDraws := by
  simp only [Device.askEnd]
  repeat' split
  all_goals simp

@[simp] theorem Device.enterFault_frame (d : Device) (cause : FaultCause) :
    (d.enterFault cause).reels = d.reels ∧ (d.enterFault cause).vault = d.vault ∧ (d.enterFault cause).time = d.time
    ∧ (d.enterFault cause).pt = d.pt ∧ (d.enterFault cause).capstan = d.capstan ∧ (d.enterFault cause).cu = d.cu
    ∧ (d.enterFault cause).dm = d.dm ∧ (d.enterFault cause).rq = d.rq ∧ (d.enterFault cause).gu = d.gu
    ∧ (d.enterFault cause).counters = d.counters ∧ (d.enterFault cause).snapshot = d.snapshot
    ∧ (d.enterFault cause).pipe = d.pipe ∧ (d.enterFault cause).freeDraws = d.freeDraws := by
  simp only [Device.enterFault]
  repeat' split
  all_goals simp

@[simp] theorem Device.sampleLimit_frame (d : Device) (f t : Nat) :
    (d.sampleLimit f t).reels = d.reels ∧ (d.sampleLimit f t).vault = d.vault ∧ (d.sampleLimit f t).time = d.time
    ∧ (d.sampleLimit f t).pt = d.pt ∧ (d.sampleLimit f t).capstan = d.capstan ∧ (d.sampleLimit f t).cu = d.cu
    ∧ (d.sampleLimit f t).dm = d.dm ∧ (d.sampleLimit f t).rq = d.rq ∧ (d.sampleLimit f t).gu = d.gu
    ∧ (d.sampleLimit f t).nl = d.nl ∧ (d.sampleLimit f t).counters = d.counters
    ∧ (d.sampleLimit f t).snapshot = d.snapshot ∧ (d.sampleLimit f t).pipe = d.pipe
    ∧ (d.sampleLimit f t).freeDraws = d.freeDraws := by
  simp only [Device.sampleLimit, Device.enterLimiting, Device.leaveLimiting]
  repeat' split
  all_goals simp

@[simp] theorem Device.enterRelaxing_frame (d : Device) :
    (d.enterRelaxing).reels = d.reels ∧ (d.enterRelaxing).vault = d.vault ∧ (d.enterRelaxing).time = d.time
    ∧ (d.enterRelaxing).pt = d.pt ∧ (d.enterRelaxing).capstan = d.capstan ∧ (d.enterRelaxing).cu = d.cu
    ∧ (d.enterRelaxing).dm = d.dm ∧ (d.enterRelaxing).rq = d.rq ∧ (d.enterRelaxing).gu = d.gu
    ∧ (d.enterRelaxing).counters = d.counters ∧ (d.enterRelaxing).snapshot = d.snapshot
    ∧ (d.enterRelaxing).pipe = d.pipe ∧ (d.enterRelaxing).freeDraws = d.freeDraws := by
  simp only [Device.enterRelaxing]
  repeat' split
  all_goals simp

@[simp] theorem Device.trip_frame (d : Device) :
    (d.trip).reels = d.reels ∧ (d.trip).vault = d.vault ∧ (d.trip).time = d.time ∧ (d.trip).pt = d.pt
    ∧ (d.trip).capstan = d.capstan ∧ (d.trip).cu = d.cu ∧ (d.trip).dm = d.dm ∧ (d.trip).rq = d.rq
    ∧ (d.trip).gu = d.gu ∧ (d.trip).counters = d.counters ∧ (d.trip).snapshot = d.snapshot ∧ (d.trip).pipe = d.pipe
    ∧ (d.trip).freeDraws = d.freeDraws := by
  simp only [Device.trip]
  repeat' split
  all_goals simp

@[simp] theorem Device.sampleIntegrator_frame (d : Device) :
    (d.sampleIntegrator).reels = d.reels ∧ (d.sampleIntegrator).vault = d.vault ∧ (d.sampleIntegrator).time = d.time
    ∧ (d.sampleIntegrator).pt = d.pt ∧ (d.sampleIntegrator).capstan = d.capstan ∧ (d.sampleIntegrator).cu = d.cu
    ∧ (d.sampleIntegrator).dm = d.dm ∧ (d.sampleIntegrator).rq = d.rq ∧ (d.sampleIntegrator).gu = d.gu
    ∧ (d.sampleIntegrator).counters = d.counters ∧ (d.sampleIntegrator).snapshot = d.snapshot
    ∧ (d.sampleIntegrator).pipe = d.pipe ∧ (d.sampleIntegrator).freeDraws = d.freeDraws := by
  simp only [Device.sampleIntegrator]
  repeat' split
  all_goals simp

@[simp] theorem Device.sampleResume_frame (d : Device) (f t : Nat) :
    (d.sampleResume f t).reels = d.reels ∧ (d.sampleResume f t).vault = d.vault ∧ (d.sampleResume f t).time = d.time
    ∧ (d.sampleResume f t).pt = d.pt ∧ (d.sampleResume f t).capstan = d.capstan ∧ (d.sampleResume f t).cu = d.cu
    ∧ (d.sampleResume f t).dm = d.dm ∧ (d.sampleResume f t).rq = d.rq ∧ (d.sampleResume f t).gu = d.gu
    ∧ (d.sampleResume f t).nl = d.nl ∧ (d.sampleResume f t).counters = d.counters
    ∧ (d.sampleResume f t).snapshot = d.snapshot ∧ (d.sampleResume f t).pipe = d.pipe
    ∧ (d.sampleResume f t).freeDraws = d.freeDraws := by
  simp only [Device.sampleResume]
  repeat' split
  all_goals simp

@[simp] theorem Device.sampleSlip_frame (d : Device) (f t : Nat) :
    (d.sampleSlip f t).reels = d.reels ∧ (d.sampleSlip f t).vault = d.vault ∧ (d.sampleSlip f t).time = d.time
    ∧ (d.sampleSlip f t).pt = d.pt ∧ (d.sampleSlip f t).capstan = d.capstan ∧ (d.sampleSlip f t).cu = d.cu
    ∧ (d.sampleSlip f t).dm = d.dm ∧ (d.sampleSlip f t).rq = d.rq ∧ (d.sampleSlip f t).gu = d.gu
    ∧ (d.sampleSlip f t).nl = d.nl ∧ (d.sampleSlip f t).counters = d.counters
    ∧ (d.sampleSlip f t).snapshot = d.snapshot ∧ (d.sampleSlip f t).pipe = d.pipe
    ∧ (d.sampleSlip f t).freeDraws = d.freeDraws := by
  simp only [Device.sampleSlip]
  repeat' split
  all_goals simp

@[simp] theorem Device.sample_frame (d : Device) (f t : Nat) :
    (d.sample f t).reels = d.reels ∧ (d.sample f t).vault = d.vault ∧ (d.sample f t).time = d.time
    ∧ (d.sample f t).pt = d.pt ∧ (d.sample f t).capstan = d.capstan ∧ (d.sample f t).cu = d.cu
    ∧ (d.sample f t).dm = d.dm ∧ (d.sample f t).rq = d.rq ∧ (d.sample f t).gu = d.gu
    ∧ (d.sample f t).counters = d.counters ∧ (d.sample f t).snapshot = d.snapshot ∧ (d.sample f t).pipe = d.pipe
    ∧ (d.sample f t).freeDraws = d.freeDraws := by
  simp only [Device.sample]
  all_goals simp

@[simp] theorem Device.startThreading_frame (d : Device) :
    (d.startThreading).reels = d.reels ∧ (d.startThreading).vault = d.vault ∧ (d.startThreading).time = d.time
    ∧ (d.startThreading).pt = d.pt ∧ (d.startThreading).capstan = d.capstan ∧ (d.startThreading).cu = d.cu
    ∧ (d.startThreading).dm = d.dm ∧ (d.startThreading).rq = d.rq ∧ (d.startThreading).gu = d.gu
    ∧ (d.startThreading).nl = d.nl ∧ (d.startThreading).counters = d.counters
    ∧ (d.startThreading).snapshot = d.snapshot ∧ (d.startThreading).pipe = d.pipe
    ∧ (d.startThreading).freeDraws = d.freeDraws := by
  simp only [Device.startThreading]
  all_goals simp

@[simp] theorem Device.filmRises_frame (d : Device) :
    (d.filmRises).reels = d.reels ∧ (d.filmRises).vault = d.vault ∧ (d.filmRises).time = d.time
    ∧ (d.filmRises).pt = d.pt ∧ (d.filmRises).capstan = d.capstan ∧ (d.filmRises).cu = d.cu
    ∧ (d.filmRises).dm = d.dm ∧ (d.filmRises).rq = d.rq ∧ (d.filmRises).gu = d.gu
    ∧ (d.filmRises).counters = d.counters ∧ (d.filmRises).snapshot = d.snapshot ∧ (d.filmRises).pipe = d.pipe
    ∧ (d.filmRises).freeDraws = d.freeDraws := by
  simp only [Device.filmRises]
  repeat' split
  all_goals simp

@[simp] theorem Device.filmFalls_frame (d : Device) :
    (d.filmFalls).reels = d.reels ∧ (d.filmFalls).vault = d.vault ∧ (d.filmFalls).time = d.time
    ∧ (d.filmFalls).pt = d.pt ∧ (d.filmFalls).capstan = d.capstan ∧ (d.filmFalls).cu = d.cu
    ∧ (d.filmFalls).dm = d.dm ∧ (d.filmFalls).rq = d.rq ∧ (d.filmFalls).gu = d.gu
    ∧ (d.filmFalls).counters = d.counters ∧ (d.filmFalls).snapshot = d.snapshot ∧ (d.filmFalls).pipe = d.pipe
    ∧ (d.filmFalls).freeDraws = d.freeDraws := by
  simp only [Device.filmFalls]
  repeat' split
  all_goals simp

@[simp] theorem Device.threadingExpires_frame (d : Device) :
    (d.threadingExpires).reels = d.reels ∧ (d.threadingExpires).vault = d.vault ∧ (d.threadingExpires).time = d.time
    ∧ (d.threadingExpires).pt = d.pt ∧ (d.threadingExpires).capstan = d.capstan ∧ (d.threadingExpires).cu = d.cu
    ∧ (d.threadingExpires).dm = d.dm ∧ (d.threadingExpires).rq = d.rq ∧ (d.threadingExpires).gu = d.gu
    ∧ (d.threadingExpires).counters = d.counters ∧ (d.threadingExpires).snapshot = d.snapshot
    ∧ (d.threadingExpires).pipe = d.pipe ∧ (d.threadingExpires).freeDraws = d.freeDraws := by
  simp only [Device.threadingExpires]
  repeat' split
  all_goals simp

@[simp] theorem Device.relaxExpires_frame (d : Device) :
    (d.relaxExpires).reels = d.reels ∧ (d.relaxExpires).vault = d.vault ∧ (d.relaxExpires).time = d.time
    ∧ (d.relaxExpires).pt = d.pt ∧ (d.relaxExpires).capstan = d.capstan ∧ (d.relaxExpires).cu = d.cu
    ∧ (d.relaxExpires).dm = d.dm ∧ (d.relaxExpires).rq = d.rq ∧ (d.relaxExpires).gu = d.gu
    ∧ (d.relaxExpires).nl = d.nl ∧ (d.relaxExpires).counters = d.counters ∧ (d.relaxExpires).snapshot = d.snapshot
    ∧ (d.relaxExpires).pipe = d.pipe ∧ (d.relaxExpires).freeDraws = d.freeDraws := by
  simp only [Device.relaxExpires]
  repeat' split
  all_goals simp

@[simp] theorem Device.strainExpires_frame (d : Device) :
    (d.strainExpires).reels = d.reels ∧ (d.strainExpires).vault = d.vault ∧ (d.strainExpires).time = d.time
    ∧ (d.strainExpires).pt = d.pt ∧ (d.strainExpires).capstan = d.capstan ∧ (d.strainExpires).cu = d.cu
    ∧ (d.strainExpires).dm = d.dm ∧ (d.strainExpires).rq = d.rq ∧ (d.strainExpires).gu = d.gu
    ∧ (d.strainExpires).counters = d.counters ∧ (d.strainExpires).snapshot = d.snapshot
    ∧ (d.strainExpires).pipe = d.pipe ∧ (d.strainExpires).freeDraws = d.freeDraws := by
  simp only [Device.strainExpires]
  repeat' split
  all_goals simp

@[simp] theorem Device.slipExpires_frame (d : Device) :
    (d.slipExpires).reels = d.reels ∧ (d.slipExpires).vault = d.vault ∧ (d.slipExpires).time = d.time
    ∧ (d.slipExpires).pt = d.pt ∧ (d.slipExpires).capstan = d.capstan ∧ (d.slipExpires).cu = d.cu
    ∧ (d.slipExpires).gu = d.gu ∧ (d.slipExpires).snapshot = d.snapshot ∧ (d.slipExpires).pipe = d.pipe
    ∧ (d.slipExpires).freeDraws = d.freeDraws := by
  simp only [Device.slipExpires]
  repeat' split
  all_goals simp

@[simp] theorem Device.boundary_frame (d : Device) (handed : Option Nat) :
    (d.boundary handed).reels = d.reels ∧ (d.boundary handed).vault = d.vault ∧ (d.boundary handed).time = d.time
    ∧ (d.boundary handed).pt = d.pt ∧ (d.boundary handed).capstan = d.capstan ∧ (d.boundary handed).cu = d.cu
    ∧ (d.boundary handed).dm = d.dm ∧ (d.boundary handed).rq = d.rq ∧ (d.boundary handed).gu = d.gu
    ∧ (d.boundary handed).counters = d.counters ∧ (d.boundary handed).snapshot = d.snapshot
    ∧ (d.boundary handed).pipe = d.pipe ∧ (d.boundary handed).freeDraws = d.freeDraws := by
  simp only [Device.boundary]
  repeat' split
  all_goals simp

@[simp] theorem Device.raiseGaps_frame (d : Device) :
    (d.raiseGaps).reels = d.reels ∧ (d.raiseGaps).vault = d.vault ∧ (d.raiseGaps).time = d.time
    ∧ (d.raiseGaps).pt = d.pt ∧ (d.raiseGaps).capstan = d.capstan ∧ (d.raiseGaps).dm = d.dm
    ∧ (d.raiseGaps).rq = d.rq ∧ (d.raiseGaps).gu = d.gu ∧ (d.raiseGaps).counters = d.counters
    ∧ (d.raiseGaps).snapshot = d.snapshot ∧ (d.raiseGaps).pipe = d.pipe
    ∧ (d.raiseGaps).freeDraws = d.freeDraws := by
  simp only [Device.raiseGaps]
  repeat' split
  all_goals simp

@[simp] theorem Device.issue_frame (d : Device) (frame : Nat) :
    (d.issue frame).reels = d.reels ∧ (d.issue frame).vault = d.vault ∧ (d.issue frame).time = d.time
    ∧ (d.issue frame).tc = d.tc ∧ (d.issue frame).pt = d.pt ∧ (d.issue frame).capstan = d.capstan
    ∧ (d.issue frame).dm = d.dm ∧ (d.issue frame).rq = d.rq ∧ (d.issue frame).gu = d.gu ∧ (d.issue frame).nl = d.nl
    ∧ (d.issue frame).snapshot = d.snapshot ∧ (d.issue frame).freeDraws = d.freeDraws := by
  simp only [Device.issue]
  all_goals simp

@[simp] theorem Device.overflowGap_frame (d : Device) (frame : Nat) :
    (d.overflowGap frame).reels = d.reels ∧ (d.overflowGap frame).vault = d.vault
    ∧ (d.overflowGap frame).time = d.time ∧ (d.overflowGap frame).pt = d.pt
    ∧ (d.overflowGap frame).capstan = d.capstan ∧ (d.overflowGap frame).gu = d.gu
    ∧ (d.overflowGap frame).snapshot = d.snapshot ∧ (d.overflowGap frame).pipe = d.pipe
    ∧ (d.overflowGap frame).freeDraws = d.freeDraws := by
  simp only [Device.overflowGap]
  all_goals simp

@[simp] theorem Device.handFrame_frame (d : Device) (frame : Nat) :
    (d.handFrame frame).reels = d.reels ∧ (d.handFrame frame).vault = d.vault ∧ (d.handFrame frame).time = d.time
    ∧ (d.handFrame frame).pt = d.pt ∧ (d.handFrame frame).capstan = d.capstan ∧ (d.handFrame frame).gu = d.gu
    ∧ (d.handFrame frame).snapshot = d.snapshot ∧ (d.handFrame frame).freeDraws = d.freeDraws := by
  simp only [Device.handFrame]
  repeat' split
  all_goals simp

@[simp] theorem Device.clipCheck_frame (d : Device) (frame : Nat) (mean : PerChannel Nat) (g : Grade) :
    (d.clipCheck frame mean g).reels = d.reels ∧ (d.clipCheck frame mean g).vault = d.vault
    ∧ (d.clipCheck frame mean g).time = d.time ∧ (d.clipCheck frame mean g).tc = d.tc
    ∧ (d.clipCheck frame mean g).pt = d.pt ∧ (d.clipCheck frame mean g).capstan = d.capstan
    ∧ (d.clipCheck frame mean g).cu = d.cu ∧ (d.clipCheck frame mean g).dm = d.dm
    ∧ (d.clipCheck frame mean g).rq = d.rq ∧ (d.clipCheck frame mean g).counters = d.counters
    ∧ (d.clipCheck frame mean g).snapshot = d.snapshot ∧ (d.clipCheck frame mean g).pipe = d.pipe
    ∧ (d.clipCheck frame mean g).freeDraws = d.freeDraws := by
  simp only [Device.clipCheck]
  repeat' split
  all_goals simp

@[simp] theorem Device.reportFindings_frame (d : Device) (r : FrameReport) (frame : Nat) :
    (d.reportFindings r frame).reels = d.reels ∧ (d.reportFindings r frame).vault = d.vault
    ∧ (d.reportFindings r frame).time = d.time ∧ (d.reportFindings r frame).tc = d.tc
    ∧ (d.reportFindings r frame).pt = d.pt ∧ (d.reportFindings r frame).capstan = d.capstan
    ∧ (d.reportFindings r frame).cu = d.cu ∧ (d.reportFindings r frame).gu = d.gu
    ∧ (d.reportFindings r frame).snapshot = d.snapshot ∧ (d.reportFindings r frame).pipe = d.pipe
    ∧ (d.reportFindings r frame).freeDraws = d.freeDraws := by
  simp only [Device.reportFindings]
  repeat' split
  all_goals simp

@[simp] theorem Device.matched_frame (d : Device) (r : FrameReport) (o : Order) :
    (d.matched r o).reels = d.reels ∧ (d.matched r o).vault = d.vault ∧ (d.matched r o).time = d.time
    ∧ (d.matched r o).tc = d.tc ∧ (d.matched r o).pt = d.pt ∧ (d.matched r o).capstan = d.capstan
    ∧ (d.matched r o).cu = d.cu ∧ (d.matched r o).snapshot = d.snapshot ∧ (d.matched r o).pipe = d.pipe
    ∧ (d.matched r o).freeDraws = d.freeDraws := by
  simp only [Device.matched]
  repeat' split
  all_goals simp

@[simp] theorem Device.report_frame (d : Device) (r : FrameReport) :
    (d.report r).reels = d.reels ∧ (d.report r).vault = d.vault ∧ (d.report r).time = d.time
    ∧ (d.report r).tc = d.tc ∧ (d.report r).pt = d.pt ∧ (d.report r).capstan = d.capstan
    ∧ (d.report r).snapshot = d.snapshot ∧ (d.report r).pipe = d.pipe ∧ (d.report r).freeDraws = d.freeDraws := by
  simp only [Device.report]
  repeat' split
  all_goals simp

@[simp] theorem Device.reportExpires_frame (d : Device) (tag : Byte) :
    (d.reportExpires tag).reels = d.reels ∧ (d.reportExpires tag).vault = d.vault
    ∧ (d.reportExpires tag).time = d.time ∧ (d.reportExpires tag).pt = d.pt
    ∧ (d.reportExpires tag).capstan = d.capstan ∧ (d.reportExpires tag).gu = d.gu
    ∧ (d.reportExpires tag).snapshot = d.snapshot ∧ (d.reportExpires tag).pipe = d.pipe
    ∧ (d.reportExpires tag).freeDraws = d.freeDraws := by
  simp only [Device.reportExpires]
  repeat' split
  all_goals simp

@[simp] theorem Device.orderSent_frame (d : Device) :
    (d.orderSent).reels = d.reels ∧ (d.orderSent).vault = d.vault ∧ (d.orderSent).time = d.time
    ∧ (d.orderSent).tc = d.tc ∧ (d.orderSent).pt = d.pt ∧ (d.orderSent).capstan = d.capstan
    ∧ (d.orderSent).cu = d.cu ∧ (d.orderSent).dm = d.dm ∧ (d.orderSent).rq = d.rq ∧ (d.orderSent).gu = d.gu
    ∧ (d.orderSent).nl = d.nl ∧ (d.orderSent).counters = d.counters ∧ (d.orderSent).snapshot = d.snapshot
    ∧ (d.orderSent).freeDraws = d.freeDraws := by
  simp only [Device.orderSent]
  all_goals simp

@[simp] theorem Device.giveSlot_frame (d : Device) (id slot : Nat) :
    (d.giveSlot id slot).time = d.time ∧ (d.giveSlot id slot).tc = d.tc ∧ (d.giveSlot id slot).pt = d.pt
    ∧ (d.giveSlot id slot).capstan = d.capstan ∧ (d.giveSlot id slot).cu = d.cu ∧ (d.giveSlot id slot).dm = d.dm
    ∧ (d.giveSlot id slot).rq = d.rq ∧ (d.giveSlot id slot).gu = d.gu ∧ (d.giveSlot id slot).counters = d.counters
    ∧ (d.giveSlot id slot).snapshot = d.snapshot ∧ (d.giveSlot id slot).pipe = d.pipe
    ∧ (d.giveSlot id slot).freeDraws = d.freeDraws := by
  simp only [Device.giveSlot]
  all_goals simp

@[simp] theorem Device.offer_frame (d : Device) (slot : Nat) :
    (d.offer slot).time = d.time ∧ (d.offer slot).tc = d.tc ∧ (d.offer slot).pt = d.pt
    ∧ (d.offer slot).capstan = d.capstan ∧ (d.offer slot).cu = d.cu ∧ (d.offer slot).dm = d.dm
    ∧ (d.offer slot).rq = d.rq ∧ (d.offer slot).gu = d.gu ∧ (d.offer slot).counters = d.counters
    ∧ (d.offer slot).snapshot = d.snapshot ∧ (d.offer slot).pipe = d.pipe
    ∧ (d.offer slot).freeDraws = d.freeDraws := by
  simp only [Device.offer]
  repeat' split
  all_goals simp

@[simp] theorem Device.offerIfFree_frame (d : Device) (slot : Nat) :
    (d.offerIfFree slot).time = d.time ∧ (d.offerIfFree slot).tc = d.tc ∧ (d.offerIfFree slot).pt = d.pt
    ∧ (d.offerIfFree slot).capstan = d.capstan ∧ (d.offerIfFree slot).cu = d.cu ∧ (d.offerIfFree slot).dm = d.dm
    ∧ (d.offerIfFree slot).rq = d.rq ∧ (d.offerIfFree slot).gu = d.gu ∧ (d.offerIfFree slot).counters = d.counters
    ∧ (d.offerIfFree slot).snapshot = d.snapshot ∧ (d.offerIfFree slot).pipe = d.pipe
    ∧ (d.offerIfFree slot).freeDraws = d.freeDraws := by
  simp only [Device.offerIfFree]
  repeat' split
  all_goals simp

@[simp] theorem Device.noticeMisplaced_frame (d : Device) (id : Nat) :
    (d.noticeMisplaced id).reels = d.reels ∧ (d.noticeMisplaced id).vault = d.vault
    ∧ (d.noticeMisplaced id).time = d.time ∧ (d.noticeMisplaced id).tc = d.tc ∧ (d.noticeMisplaced id).pt = d.pt
    ∧ (d.noticeMisplaced id).capstan = d.capstan ∧ (d.noticeMisplaced id).cu = d.cu
    ∧ (d.noticeMisplaced id).dm = d.dm ∧ (d.noticeMisplaced id).rq = d.rq ∧ (d.noticeMisplaced id).gu = d.gu
    ∧ (d.noticeMisplaced id).counters = d.counters ∧ (d.noticeMisplaced id).snapshot = d.snapshot
    ∧ (d.noticeMisplaced id).pipe = d.pipe ∧ (d.noticeMisplaced id).freeDraws = d.freeDraws := by
  simp only [Device.noticeMisplaced]
  repeat' split
  all_goals simp

@[simp] theorem Device.acclimatized_frame (d : Device) (id : Nat) :
    (d.acclimatized id).vault = d.vault ∧ (d.acclimatized id).time = d.time ∧ (d.acclimatized id).tc = d.tc
    ∧ (d.acclimatized id).pt = d.pt ∧ (d.acclimatized id).capstan = d.capstan ∧ (d.acclimatized id).cu = d.cu
    ∧ (d.acclimatized id).dm = d.dm ∧ (d.acclimatized id).rq = d.rq ∧ (d.acclimatized id).gu = d.gu
    ∧ (d.acclimatized id).counters = d.counters ∧ (d.acclimatized id).snapshot = d.snapshot
    ∧ (d.acclimatized id).pipe = d.pipe ∧ (d.acclimatized id).freeDraws = d.freeDraws := by
  simp only [Device.acclimatized]
  repeat' split
  all_goals simp

@[simp] theorem Device.escalate_frame (d : Device) (s : Nat) :
    (d.escalate s).vault = d.vault ∧ (d.escalate s).time = d.time ∧ (d.escalate s).pt = d.pt
    ∧ (d.escalate s).capstan = d.capstan ∧ (d.escalate s).cu = d.cu ∧ (d.escalate s).dm = d.dm
    ∧ (d.escalate s).rq = d.rq ∧ (d.escalate s).gu = d.gu ∧ (d.escalate s).counters = d.counters
    ∧ (d.escalate s).snapshot = d.snapshot ∧ (d.escalate s).pipe = d.pipe
    ∧ (d.escalate s).freeDraws = d.freeDraws := by
  simp only [Device.escalate]
  repeat' split
  all_goals simp

@[simp] theorem Device.countForward_frame (d : Device) :
    (d.countForward).reels = d.reels ∧ (d.countForward).vault = d.vault ∧ (d.countForward).time = d.time
    ∧ (d.countForward).capstan = d.capstan ∧ (d.countForward).gu = d.gu ∧ (d.countForward).snapshot = d.snapshot
    ∧ (d.countForward).freeDraws = d.freeDraws := by
  simp only [Device.countForward]
  repeat' split
  all_goals simp

@[simp] theorem Device.countMany_frame (n : Nat) (d : Device) :
    (Device.countMany n d).reels = d.reels ∧ (Device.countMany n d).vault = d.vault
    ∧ (Device.countMany n d).time = d.time ∧ (Device.countMany n d).capstan = d.capstan
    ∧ (Device.countMany n d).gu = d.gu ∧ (Device.countMany n d).snapshot = d.snapshot
    ∧ (Device.countMany n d).freeDraws = d.freeDraws := by
  induction n generalizing d with
  | zero => simp [Device.countMany]
  | succ n ih => simp [Device.countMany, ih]

@[simp] theorem Device.countBackward_frame (d : Device) :
    (d.countBackward).reels = d.reels ∧ (d.countBackward).vault = d.vault ∧ (d.countBackward).time = d.time
    ∧ (d.countBackward).capstan = d.capstan ∧ (d.countBackward).cu = d.cu ∧ (d.countBackward).dm = d.dm
    ∧ (d.countBackward).rq = d.rq ∧ (d.countBackward).gu = d.gu ∧ (d.countBackward).counters = d.counters
    ∧ (d.countBackward).snapshot = d.snapshot ∧ (d.countBackward).pipe = d.pipe
    ∧ (d.countBackward).freeDraws = d.freeDraws := by
  simp only [Device.countBackward]
  repeat' split
  all_goals simp

@[simp] theorem Device.measured_frame (d : Device) (s : Nat) :
    (d.measured s).vault = d.vault ∧ (d.measured s).time = d.time ∧ (d.measured s).capstan = d.capstan
    ∧ (d.measured s).cu = d.cu ∧ (d.measured s).dm = d.dm ∧ (d.measured s).rq = d.rq ∧ (d.measured s).gu = d.gu
    ∧ (d.measured s).counters = d.counters ∧ (d.measured s).snapshot = d.snapshot ∧ (d.measured s).pipe = d.pipe
    ∧ (d.measured s).freeDraws = d.freeDraws := by
  simp only [Device.measured]
  repeat' split
  all_goals simp

@[simp] theorem Device.goodEdge_frame (d : Device) (t : Tracker) (p : BitVec 32) (s : Nat) :
    (d.goodEdge t p s).vault = d.vault ∧ (d.goodEdge t p s).time = d.time ∧ (d.goodEdge t p s).capstan = d.capstan
    ∧ (d.goodEdge t p s).gu = d.gu ∧ (d.goodEdge t p s).snapshot = d.snapshot
    ∧ (d.goodEdge t p s).freeDraws = d.freeDraws := by
  simp only [Device.goodEdge]
  repeat' split
  all_goals simp

@[simp] theorem Device.gapEdge_frame (d : Device) (t : Tracker) (p : BitVec 32) (s : Nat) :
    (d.gapEdge t p s).reels = d.reels ∧ (d.gapEdge t p s).vault = d.vault ∧ (d.gapEdge t p s).time = d.time
    ∧ (d.gapEdge t p s).capstan = d.capstan ∧ (d.gapEdge t p s).gu = d.gu ∧ (d.gapEdge t p s).snapshot = d.snapshot
    ∧ (d.gapEdge t p s).freeDraws = d.freeDraws := by
  simp only [Device.gapEdge]
  repeat' split
  all_goals simp

@[simp] theorem Device.forwardEdge_frame (d : Device) (t : Tracker) (p : BitVec 32) :
    (d.forwardEdge t p).vault = d.vault ∧ (d.forwardEdge t p).time = d.time
    ∧ (d.forwardEdge t p).capstan = d.capstan ∧ (d.forwardEdge t p).gu = d.gu
    ∧ (d.forwardEdge t p).snapshot = d.snapshot ∧ (d.forwardEdge t p).freeDraws = d.freeDraws := by
  simp only [Device.forwardEdge]
  repeat' split
  all_goals simp

@[simp] theorem Device.edge_frame (d : Device) (p : BitVec 32) :
    (d.edge p).vault = d.vault ∧ (d.edge p).time = d.time ∧ (d.edge p).gu = d.gu ∧ (d.edge p).snapshot = d.snapshot
    ∧ (d.edge p).freeDraws = d.freeDraws := by
  simp only [Device.edge]
  repeat' split
  all_goals simp

@[simp] theorem Device.startBackward_frame (d : Device) (target : Nat) :
    (d.startBackward target).reels = d.reels ∧ (d.startBackward target).vault = d.vault
    ∧ (d.startBackward target).time = d.time ∧ (d.startBackward target).capstan = d.capstan
    ∧ (d.startBackward target).cu = d.cu ∧ (d.startBackward target).dm = d.dm ∧ (d.startBackward target).rq = d.rq
    ∧ (d.startBackward target).gu = d.gu ∧ (d.startBackward target).nl = d.nl
    ∧ (d.startBackward target).counters = d.counters ∧ (d.startBackward target).snapshot = d.snapshot
    ∧ (d.startBackward target).pipe = d.pipe ∧ (d.startBackward target).freeDraws = d.freeDraws := by
  simp only [Device.startBackward]
  all_goals simp

@[simp] theorem Device.startLeg_frame (d : Device) (first : Nat) :
    (d.startLeg first).reels = d.reels ∧ (d.startLeg first).vault = d.vault ∧ (d.startLeg first).time = d.time
    ∧ (d.startLeg first).capstan = d.capstan ∧ (d.startLeg first).cu = d.cu ∧ (d.startLeg first).dm = d.dm
    ∧ (d.startLeg first).rq = d.rq ∧ (d.startLeg first).gu = d.gu ∧ (d.startLeg first).nl = d.nl
    ∧ (d.startLeg first).counters = d.counters ∧ (d.startLeg first).snapshot = d.snapshot
    ∧ (d.startLeg first).pipe = d.pipe ∧ (d.startLeg first).freeDraws = d.freeDraws := by
  simp only [Device.startLeg]
  repeat' split
  all_goals simp

@[simp] theorem Device.startPass_frame (d : Device) (r : Reel) (p : PassRecord) :
    (d.startPass r p).vault = d.vault ∧ (d.startPass r p).time = d.time ∧ (d.startPass r p).dm = d.dm
    ∧ (d.startPass r p).rq = d.rq ∧ (d.startPass r p).gu = d.gu ∧ (d.startPass r p).nl = d.nl
    ∧ (d.startPass r p).counters = d.counters ∧ (d.startPass r p).snapshot = d.snapshot
    ∧ (d.startPass r p).pipe = d.pipe ∧ (d.startPass r p).freeDraws = d.freeDraws := by
  simp only [Device.startPass]
  all_goals simp

@[simp] theorem Device.handBack_frame (d : Device) (n : Nat) (e : Entry) (st : Station) :
    (d.handBack n e st).reels = d.reels ∧ (d.handBack n e st).vault = d.vault ∧ (d.handBack n e st).time = d.time
    ∧ (d.handBack n e st).tc = d.tc ∧ (d.handBack n e st).pt = d.pt ∧ (d.handBack n e st).capstan = d.capstan
    ∧ (d.handBack n e st).cu = d.cu ∧ (d.handBack n e st).gu = d.gu ∧ (d.handBack n e st).nl = d.nl
    ∧ (d.handBack n e st).counters = d.counters ∧ (d.handBack n e st).snapshot = d.snapshot
    ∧ (d.handBack n e st).pipe = d.pipe ∧ (d.handBack n e st).freeDraws = d.freeDraws := by
  simp only [Device.handBack]
  all_goals simp

@[simp] theorem Device.completeRepaired_frame (d : Device) (n : Nat) (st : Station) (e : Entry) :
    (d.completeRepaired n st e).reels = d.reels ∧ (d.completeRepaired n st e).vault = d.vault
    ∧ (d.completeRepaired n st e).time = d.time ∧ (d.completeRepaired n st e).tc = d.tc
    ∧ (d.completeRepaired n st e).pt = d.pt ∧ (d.completeRepaired n st e).capstan = d.capstan
    ∧ (d.completeRepaired n st e).cu = d.cu ∧ (d.completeRepaired n st e).gu = d.gu
    ∧ (d.completeRepaired n st e).nl = d.nl ∧ (d.completeRepaired n st e).counters = d.counters
    ∧ (d.completeRepaired n st e).snapshot = d.snapshot ∧ (d.completeRepaired n st e).pipe = d.pipe
    ∧ (d.completeRepaired n st e).freeDraws = d.freeDraws := by
  simp only [Device.completeRepaired]
  all_goals simp

@[simp] theorem Device.completeUnrepairable_frame (d : Device) (n : Nat) (st : Station) (e : Entry) :
    (d.completeUnrepairable n st e).reels = d.reels ∧ (d.completeUnrepairable n st e).vault = d.vault
    ∧ (d.completeUnrepairable n st e).time = d.time ∧ (d.completeUnrepairable n st e).tc = d.tc
    ∧ (d.completeUnrepairable n st e).pt = d.pt ∧ (d.completeUnrepairable n st e).capstan = d.capstan
    ∧ (d.completeUnrepairable n st e).cu = d.cu ∧ (d.completeUnrepairable n st e).gu = d.gu
    ∧ (d.completeUnrepairable n st e).nl = d.nl ∧ (d.completeUnrepairable n st e).counters = d.counters
    ∧ (d.completeUnrepairable n st e).snapshot = d.snapshot ∧ (d.completeUnrepairable n st e).pipe = d.pipe
    ∧ (d.completeUnrepairable n st e).freeDraws = d.freeDraws := by
  simp only [Device.completeUnrepairable]
  all_goals simp

@[simp] theorem Device.lockAll_frame (d : Device) :
    (d.lockAll).reels = d.reels ∧ (d.lockAll).vault = d.vault ∧ (d.lockAll).time = d.time ∧ (d.lockAll).tc = d.tc
    ∧ (d.lockAll).pt = d.pt ∧ (d.lockAll).capstan = d.capstan ∧ (d.lockAll).cu = d.cu ∧ (d.lockAll).dm = d.dm
    ∧ (d.lockAll).rq = d.rq ∧ (d.lockAll).nl = d.nl ∧ (d.lockAll).counters = d.counters
    ∧ (d.lockAll).snapshot = d.snapshot ∧ (d.lockAll).pipe = d.pipe ∧ (d.lockAll).freeDraws = d.freeDraws := by
  simp only [Device.lockAll]
  all_goals simp

@[simp] theorem Device.closeOpenWork_frame (d : Device) :
    (d.closeOpenWork).reels = d.reels ∧ (d.closeOpenWork).vault = d.vault ∧ (d.closeOpenWork).time = d.time
    ∧ (d.closeOpenWork).tc = d.tc ∧ (d.closeOpenWork).pt = d.pt ∧ (d.closeOpenWork).capstan = d.capstan
    ∧ (d.closeOpenWork).cu = d.cu ∧ (d.closeOpenWork).nl = d.nl ∧ (d.closeOpenWork).counters = d.counters
    ∧ (d.closeOpenWork).snapshot = d.snapshot ∧ (d.closeOpenWork).pipe = d.pipe
    ∧ (d.closeOpenWork).freeDraws = d.freeDraws := by
  simp only [Device.closeOpenWork]
  all_goals simp

@[simp] theorem Device.emptySession_frame (d : Device) :
    (d.emptySession).reels = d.reels ∧ (d.emptySession).vault = d.vault ∧ (d.emptySession).time = d.time
    ∧ (d.emptySession).tc = d.tc ∧ (d.emptySession).capstan = d.capstan ∧ (d.emptySession).cu = d.cu
    ∧ (d.emptySession).nl = d.nl ∧ (d.emptySession).counters = d.counters ∧ (d.emptySession).snapshot = d.snapshot
    ∧ (d.emptySession).pipe = d.pipe ∧ (d.emptySession).freeDraws = d.freeDraws := by
  simp only [Device.emptySession]
  all_goals simp

@[simp] theorem Device.sendBack_frame (d : Device) (r : Reel) :
    (d.sendBack r).time = d.time ∧ (d.sendBack r).tc = d.tc ∧ (d.sendBack r).pt = d.pt
    ∧ (d.sendBack r).capstan = d.capstan ∧ (d.sendBack r).cu = d.cu ∧ (d.sendBack r).dm = d.dm
    ∧ (d.sendBack r).rq = d.rq ∧ (d.sendBack r).gu = d.gu ∧ (d.sendBack r).counters = d.counters
    ∧ (d.sendBack r).snapshot = d.snapshot ∧ (d.sendBack r).pipe = d.pipe
    ∧ (d.sendBack r).freeDraws = d.freeDraws := by
  simp only [Device.sendBack]
  repeat' split
  all_goals simp

@[simp] theorem Device.endSession_frame (d : Device) (id : Nat) (graded : Bool) (deferred : Nat) :
    (d.endSession id graded deferred).time = d.time ∧ (d.endSession id graded deferred).tc = d.tc
    ∧ (d.endSession id graded deferred).capstan = d.capstan
    ∧ (d.endSession id graded deferred).counters = d.counters
    ∧ (d.endSession id graded deferred).snapshot = d.snapshot ∧ (d.endSession id graded deferred).pipe = d.pipe
    ∧ (d.endSession id graded deferred).freeDraws = d.freeDraws := by
  simp only [Device.endSession]
  repeat' split
  all_goals simp

@[simp] theorem Device.startSession_frame (d : Device) (r : Reel) (head : Nat) :
    (d.startSession r head).vault = d.vault ∧ (d.startSession r head).time = d.time
    ∧ (d.startSession r head).capstan = d.capstan ∧ (d.startSession r head).cu = d.cu
    ∧ (d.startSession r head).nl = d.nl ∧ (d.startSession r head).counters = d.counters
    ∧ (d.startSession r head).snapshot = d.snapshot ∧ (d.startSession r head).pipe = d.pipe
    ∧ (d.startSession r head).freeDraws = d.freeDraws := by
  simp only [Device.startSession]
  all_goals simp

end Sys2Proof.Machine
end

