-- ==== Sys2Proof/Laws/Answers.lean ====
section
/-! SUPPORT. Frames of the owners' answers: what carrying out a request of each kind leaves of the device. -/

namespace Sys2Proof.Machine

/-- A sweep of the slots leaves all but the reels, the vault and the notices. -/
@[simp] theorem Device.sweep_frame (l : List Nat) (d : Device) :
    (l.foldl Device.offerIfFree d).time = d.time ∧ (l.foldl Device.offerIfFree d).tc = d.tc
    ∧ (l.foldl Device.offerIfFree d).pt = d.pt ∧ (l.foldl Device.offerIfFree d).capstan = d.capstan
    ∧ (l.foldl Device.offerIfFree d).cu = d.cu ∧ (l.foldl Device.offerIfFree d).dm = d.dm
    ∧ (l.foldl Device.offerIfFree d).rq = d.rq ∧ (l.foldl Device.offerIfFree d).gu = d.gu
    ∧ (l.foldl Device.offerIfFree d).counters = d.counters ∧ (l.foldl Device.offerIfFree d).snapshot = d.snapshot
    ∧ (l.foldl Device.offerIfFree d).pipe = d.pipe ∧ (l.foldl Device.offerIfFree d).freeDraws = d.freeDraws := by
  induction l generalizing d with
  | nil => simp
  | cons n l ih => simp [ih]

/-- The walk that notices misplaced reels leaves all but the notices. -/
@[simp] theorem Device.misplacedWalk_frame (l : List Nat) (d : Device) :
    (l.foldl (fun d id => d.noticeMisplaced id) d).reels = d.reels
    ∧ (l.foldl (fun d id => d.noticeMisplaced id) d).vault = d.vault
    ∧ (l.foldl (fun d id => d.noticeMisplaced id) d).time = d.time
    ∧ (l.foldl (fun d id => d.noticeMisplaced id) d).tc = d.tc
    ∧ (l.foldl (fun d id => d.noticeMisplaced id) d).pt = d.pt
    ∧ (l.foldl (fun d id => d.noticeMisplaced id) d).capstan = d.capstan
    ∧ (l.foldl (fun d id => d.noticeMisplaced id) d).cu = d.cu
    ∧ (l.foldl (fun d id => d.noticeMisplaced id) d).dm = d.dm
    ∧ (l.foldl (fun d id => d.noticeMisplaced id) d).rq = d.rq
    ∧ (l.foldl (fun d id => d.noticeMisplaced id) d).gu = d.gu
    ∧ (l.foldl (fun d id => d.noticeMisplaced id) d).counters = d.counters
    ∧ (l.foldl (fun d id => d.noticeMisplaced id) d).snapshot = d.snapshot
    ∧ (l.foldl (fun d id => d.noticeMisplaced id) d).pipe = d.pipe
    ∧ (l.foldl (fun d id => d.noticeMisplaced id) d).freeDraws = d.freeDraws := by
  induction l generalizing d with
  | nil => simp
  | cons n l ih => simp [ih]

/-! ### Readings: the device is left as it was -/

@[simp] theorem answerIdentify_reads (a : BitVec 3) (r : BitVec 2) (d : Device) : (answerIdentify a r d).1 = d := rfl
@[simp] theorem answerReadCounters_reads (d : Device) : (answerReadCounters d).1 = d := rfl
@[simp] theorem answerReadClock_reads (d : Device) : (answerReadClock d).1 = d := rfl
@[simp] theorem answerReelStatus_reads (reelId : BitVec 32) (d : Device) : (answerReelStatus reelId d).1 = d := by
  simp only [answerReelStatus, withReel, refuse]
  repeat' split
  all_goals rfl
@[simp] theorem answerListReels_reads (start : BitVec 32) (d : Device) : (answerListReels start d).1 = d := by
  simp only [answerListReels, refuse]
  repeat' split
  all_goals rfl
@[simp] theorem answerSlotStatus_reads (slot : BitVec 16) (d : Device) : (answerSlotStatus slot d).1 = d := by
  simp only [answerSlotStatus, withSlot, refuse]
  repeat' split
  all_goals rfl
@[simp] theorem answerListHold_reads (start : Byte) (d : Device) : (answerListHold start d).1 = d := by
  simp only [answerListHold]
@[simp] theorem answerZoneStatus_reads (zone : Byte) (d : Device) : (answerZoneStatus zone d).1 = d := by
  simp only [answerZoneStatus, withZone, refuse]
  repeat' split
  all_goals rfl
@[simp] theorem answerReadIncident_reads (d : Device) : (answerReadIncident d).1 = d := rfl
@[simp] theorem answerTransportStatus_reads (d : Device) : (answerTransportStatus d).1 = d := rfl
@[simp] theorem answerTrackerStatus_reads (d : Device) : (answerTrackerStatus d).1 = d := rfl
@[simp] theorem answerCaptureStatus_reads (d : Device) : (answerCaptureStatus d).1 = d := rfl
@[simp] theorem answerListDefects_reads (op : ListDefectsOperands) (d : Device) : (answerListDefects op d).1 = d := by
  simp only [answerListDefects, refuse]
  repeat' split
  all_goals rfl
@[simp] theorem answerDefectSummary_reads (d : Device) : (answerDefectSummary d).1 = d := rfl
@[simp] theorem answerQueueStatus_reads (d : Device) : (answerQueueStatus d).1 = d := rfl
@[simp] theorem answerListQueue_reads (priority : Byte) (start : Byte) (d : Device) : (answerListQueue priority start d).1 = d := by
  simp only [answerListQueue, refuse]
  repeat' split
  all_goals rfl
@[simp] theorem answerListShots_reads (start : BitVec 16) (d : Device) : (answerListShots start d).1 = d := by
  simp only [answerListShots, refuse]
  repeat' split
  all_goals rfl
@[simp] theorem answerFadeStatus_reads (d : Device) : (answerFadeStatus d).1 = d := rfl
@[simp] theorem answerEvaluateGrade_reads (ref : FrameRef) (density : PerChannel (BitVec 16)) (d : Device) : (answerEvaluateGrade ref density d).1 = d := by
  simp only [answerEvaluateGrade, withFrame, refuse]
  repeat' split
  all_goals rfl

/-! ### Changes -/

@[simp] theorem answerRestartSuite_frame (d : Device) :
    (answerRestartSuite d).1.vault = d.vault ∧ (answerRestartSuite d).1.time = d.time
    ∧ (answerRestartSuite d).1.capstan = d.capstan ∧ (answerRestartSuite d).1.freeDraws = d.freeDraws :=
  ⟨rfl, rfl, rfl, rfl⟩

@[simp] theorem answerSnapshotCounters_frame (clear : Byte) (d : Device) :
    (answerSnapshotCounters clear d).1.reels = d.reels ∧ (answerSnapshotCounters clear d).1.vault = d.vault
    ∧ (answerSnapshotCounters clear d).1.time = d.time ∧ (answerSnapshotCounters clear d).1.tc = d.tc
    ∧ (answerSnapshotCounters clear d).1.pt = d.pt ∧ (answerSnapshotCounters clear d).1.capstan = d.capstan
    ∧ (answerSnapshotCounters clear d).1.cu = d.cu ∧ (answerSnapshotCounters clear d).1.dm = d.dm
    ∧ (answerSnapshotCounters clear d).1.rq = d.rq ∧ (answerSnapshotCounters clear d).1.gu = d.gu
    ∧ (answerSnapshotCounters clear d).1.nl = d.nl ∧ (answerSnapshotCounters clear d).1.pipe = d.pipe
    ∧ (answerSnapshotCounters clear d).1.freeDraws = d.freeDraws := by
  simp only [answerSnapshotCounters, refuse]
  repeat' split
  all_goals simp

@[simp] theorem answerClearCounters_frame (d : Device) :
    (answerClearCounters d).1.reels = d.reels ∧ (answerClearCounters d).1.vault = d.vault
    ∧ (answerClearCounters d).1.time = d.time ∧ (answerClearCounters d).1.tc = d.tc
    ∧ (answerClearCounters d).1.pt = d.pt ∧ (answerClearCounters d).1.capstan = d.capstan
    ∧ (answerClearCounters d).1.cu = d.cu ∧ (answerClearCounters d).1.dm = d.dm
    ∧ (answerClearCounters d).1.rq = d.rq ∧ (answerClearCounters d).1.gu = d.gu
    ∧ (answerClearCounters d).1.nl = d.nl ∧ (answerClearCounters d).1.snapshot = d.snapshot
    ∧ (answerClearCounters d).1.pipe = d.pipe ∧ (answerClearCounters d).1.freeDraws = d.freeDraws := by
  simp only [answerClearCounters]
  all_goals simp

@[simp] theorem answerAdjustClock_frame (seconds : BitVec 32) (micros : BitVec 32) (d : Device) :
    (answerAdjustClock seconds micros d).1.reels = d.reels ∧ (answerAdjustClock seconds micros d).1.vault = d.vault
    ∧ (answerAdjustClock seconds micros d).1.tc = d.tc ∧ (answerAdjustClock seconds micros d).1.pt = d.pt
    ∧ (answerAdjustClock seconds micros d).1.capstan = d.capstan ∧ (answerAdjustClock seconds micros d).1.cu = d.cu
    ∧ (answerAdjustClock seconds micros d).1.dm = d.dm ∧ (answerAdjustClock seconds micros d).1.rq = d.rq
    ∧ (answerAdjustClock seconds micros d).1.gu = d.gu ∧ (answerAdjustClock seconds micros d).1.nl = d.nl
    ∧ (answerAdjustClock seconds micros d).1.counters = d.counters
    ∧ (answerAdjustClock seconds micros d).1.snapshot = d.snapshot
    ∧ (answerAdjustClock seconds micros d).1.pipe = d.pipe
    ∧ (answerAdjustClock seconds micros d).1.freeDraws = d.freeDraws := by
  simp only [answerAdjustClock, refuse]
  repeat' split
  all_goals simp

@[simp] theorem answerTrimClock_frame (trim : BitVec 16) (d : Device) :
    (answerTrimClock trim d).1.reels = d.reels ∧ (answerTrimClock trim d).1.vault = d.vault
    ∧ (answerTrimClock trim d).1.tc = d.tc ∧ (answerTrimClock trim d).1.pt = d.pt
    ∧ (answerTrimClock trim d).1.capstan = d.capstan ∧ (answerTrimClock trim d).1.cu = d.cu
    ∧ (answerTrimClock trim d).1.dm = d.dm ∧ (answerTrimClock trim d).1.rq = d.rq
    ∧ (answerTrimClock trim d).1.gu = d.gu ∧ (answerTrimClock trim d).1.nl = d.nl
    ∧ (answerTrimClock trim d).1.counters = d.counters ∧ (answerTrimClock trim d).1.snapshot = d.snapshot
    ∧ (answerTrimClock trim d).1.pipe = d.pipe ∧ (answerTrimClock trim d).1.freeDraws = d.freeDraws := by
  simp only [answerTrimClock]
  all_goals simp

@[simp] theorem answerEnrolReel_frame (op : EnrolOperands) (d : Device) :
    (answerEnrolReel op d).1.time = d.time ∧ (answerEnrolReel op d).1.tc = d.tc ∧ (answerEnrolReel op d).1.pt = d.pt
    ∧ (answerEnrolReel op d).1.capstan = d.capstan ∧ (answerEnrolReel op d).1.cu = d.cu
    ∧ (answerEnrolReel op d).1.dm = d.dm ∧ (answerEnrolReel op d).1.rq = d.rq ∧ (answerEnrolReel op d).1.gu = d.gu
    ∧ (answerEnrolReel op d).1.counters = d.counters ∧ (answerEnrolReel op d).1.snapshot = d.snapshot
    ∧ (answerEnrolReel op d).1.pipe = d.pipe ∧ (answerEnrolReel op d).1.freeDraws = d.freeDraws := by
  simp only [answerEnrolReel, refuse]
  repeat' split
  all_goals simp

@[simp] theorem answerWithdrawReel_frame (reelId : BitVec 32) (d : Device) :
    (answerWithdrawReel reelId d).1.time = d.time ∧ (answerWithdrawReel reelId d).1.tc = d.tc
    ∧ (answerWithdrawReel reelId d).1.pt = d.pt ∧ (answerWithdrawReel reelId d).1.capstan = d.capstan
    ∧ (answerWithdrawReel reelId d).1.cu = d.cu ∧ (answerWithdrawReel reelId d).1.dm = d.dm
    ∧ (answerWithdrawReel reelId d).1.rq = d.rq ∧ (answerWithdrawReel reelId d).1.gu = d.gu
    ∧ (answerWithdrawReel reelId d).1.counters = d.counters ∧ (answerWithdrawReel reelId d).1.snapshot = d.snapshot
    ∧ (answerWithdrawReel reelId d).1.pipe = d.pipe ∧ (answerWithdrawReel reelId d).1.freeDraws = d.freeDraws := by
  simp only [answerWithdrawReel, withReel, refuse]
  repeat' split
  all_goals simp

@[simp] theorem answerRequestReel_frame (reelId : BitVec 32) (d : Device) :
    (answerRequestReel reelId d).1.vault = d.vault ∧ (answerRequestReel reelId d).1.time = d.time
    ∧ (answerRequestReel reelId d).1.tc = d.tc ∧ (answerRequestReel reelId d).1.pt = d.pt
    ∧ (answerRequestReel reelId d).1.capstan = d.capstan ∧ (answerRequestReel reelId d).1.cu = d.cu
    ∧ (answerRequestReel reelId d).1.dm = d.dm ∧ (answerRequestReel reelId d).1.rq = d.rq
    ∧ (answerRequestReel reelId d).1.gu = d.gu ∧ (answerRequestReel reelId d).1.nl = d.nl
    ∧ (answerRequestReel reelId d).1.counters = d.counters ∧ (answerRequestReel reelId d).1.snapshot = d.snapshot
    ∧ (answerRequestReel reelId d).1.pipe = d.pipe ∧ (answerRequestReel reelId d).1.freeDraws = d.freeDraws := by
  simp only [answerRequestReel, withReel, refuse]
  repeat' split
  all_goals simp

@[simp] theorem answerReelArrived_frame (reelId : BitVec 32) (d : Device) :
    (answerReelArrived reelId d).1.time = d.time ∧ (answerReelArrived reelId d).1.tc = d.tc
    ∧ (answerReelArrived reelId d).1.pt = d.pt ∧ (answerReelArrived reelId d).1.capstan = d.capstan
    ∧ (answerReelArrived reelId d).1.cu = d.cu ∧ (answerReelArrived reelId d).1.dm = d.dm
    ∧ (answerReelArrived reelId d).1.rq = d.rq ∧ (answerReelArrived reelId d).1.gu = d.gu
    ∧ (answerReelArrived reelId d).1.counters = d.counters ∧ (answerReelArrived reelId d).1.snapshot = d.snapshot
    ∧ (answerReelArrived reelId d).1.pipe = d.pipe ∧ (answerReelArrived reelId d).1.freeDraws = d.freeDraws := by
  simp only [answerReelArrived, withReel, refuse]
  repeat' split
  all_goals simp

@[simp] theorem answerLoadReel_frame (reelId : BitVec 32) (head : Option (BitVec 16)) (d : Device) :
    (answerLoadReel reelId head d).1.vault = d.vault ∧ (answerLoadReel reelId head d).1.time = d.time
    ∧ (answerLoadReel reelId head d).1.capstan = d.capstan ∧ (answerLoadReel reelId head d).1.cu = d.cu
    ∧ (answerLoadReel reelId head d).1.nl = d.nl ∧ (answerLoadReel reelId head d).1.counters = d.counters
    ∧ (answerLoadReel reelId head d).1.snapshot = d.snapshot ∧ (answerLoadReel reelId head d).1.pipe = d.pipe
    ∧ (answerLoadReel reelId head d).1.freeDraws = d.freeDraws := by
  simp only [answerLoadReel, withReel, refuse]
  repeat' split
  all_goals simp

@[simp] theorem answerUnloadReel_frame (force : Byte) (d : Device) :
    (answerUnloadReel force d).1.time = d.time ∧ (answerUnloadReel force d).1.tc = d.tc
    ∧ (answerUnloadReel force d).1.capstan = d.capstan ∧ (answerUnloadReel force d).1.counters = d.counters
    ∧ (answerUnloadReel force d).1.snapshot = d.snapshot ∧ (answerUnloadReel force d).1.pipe = d.pipe
    ∧ (answerUnloadReel force d).1.freeDraws = d.freeDraws := by
  simp only [answerUnloadReel, refuse, refuseWith]
  repeat' split
  all_goals simp

@[simp] theorem answerReelPlaced_frame (reelId : BitVec 32) (slot : BitVec 16) (d : Device) :
    (answerReelPlaced reelId slot d).1.time = d.time ∧ (answerReelPlaced reelId slot d).1.tc = d.tc
    ∧ (answerReelPlaced reelId slot d).1.pt = d.pt ∧ (answerReelPlaced reelId slot d).1.capstan = d.capstan
    ∧ (answerReelPlaced reelId slot d).1.cu = d.cu ∧ (answerReelPlaced reelId slot d).1.dm = d.dm
    ∧ (answerReelPlaced reelId slot d).1.rq = d.rq ∧ (answerReelPlaced reelId slot d).1.gu = d.gu
    ∧ (answerReelPlaced reelId slot d).1.counters = d.counters
    ∧ (answerReelPlaced reelId slot d).1.snapshot = d.snapshot ∧ (answerReelPlaced reelId slot d).1.pipe = d.pipe
    ∧ (answerReelPlaced reelId slot d).1.freeDraws = d.freeDraws := by
  simp only [answerReelPlaced, withReel, withSlot, refuse]
  repeat' split
  all_goals simp

@[simp] theorem answerRecallReel_frame (reelId : BitVec 32) (d : Device) :
    (answerRecallReel reelId d).1.time = d.time ∧ (answerRecallReel reelId d).1.tc = d.tc
    ∧ (answerRecallReel reelId d).1.pt = d.pt ∧ (answerRecallReel reelId d).1.capstan = d.capstan
    ∧ (answerRecallReel reelId d).1.cu = d.cu ∧ (answerRecallReel reelId d).1.dm = d.dm
    ∧ (answerRecallReel reelId d).1.rq = d.rq ∧ (answerRecallReel reelId d).1.gu = d.gu
    ∧ (answerRecallReel reelId d).1.counters = d.counters ∧ (answerRecallReel reelId d).1.snapshot = d.snapshot
    ∧ (answerRecallReel reelId d).1.pipe = d.pipe ∧ (answerRecallReel reelId d).1.freeDraws = d.freeDraws := by
  simp only [answerRecallReel, withReel, refuse]
  repeat' split
  all_goals simp

@[simp] theorem answerSetCondition_frame (op : ConditionOperands) (d : Device) :
    (answerSetCondition op d).1.vault = d.vault ∧ (answerSetCondition op d).1.time = d.time
    ∧ (answerSetCondition op d).1.tc = d.tc ∧ (answerSetCondition op d).1.pt = d.pt
    ∧ (answerSetCondition op d).1.capstan = d.capstan ∧ (answerSetCondition op d).1.cu = d.cu
    ∧ (answerSetCondition op d).1.dm = d.dm ∧ (answerSetCondition op d).1.rq = d.rq
    ∧ (answerSetCondition op d).1.gu = d.gu ∧ (answerSetCondition op d).1.counters = d.counters
    ∧ (answerSetCondition op d).1.snapshot = d.snapshot ∧ (answerSetCondition op d).1.pipe = d.pipe
    ∧ (answerSetCondition op d).1.freeDraws = d.freeDraws := by
  simp only [answerSetCondition, withReel, refuse]
  repeat' split
  all_goals simp

@[simp] theorem answerGrantPasses_frame (reelId : BitVec 32) (passes : Byte) (d : Device) :
    (answerGrantPasses reelId passes d).1.vault = d.vault ∧ (answerGrantPasses reelId passes d).1.time = d.time
    ∧ (answerGrantPasses reelId passes d).1.tc = d.tc ∧ (answerGrantPasses reelId passes d).1.pt = d.pt
    ∧ (answerGrantPasses reelId passes d).1.capstan = d.capstan ∧ (answerGrantPasses reelId passes d).1.cu = d.cu
    ∧ (answerGrantPasses reelId passes d).1.dm = d.dm ∧ (answerGrantPasses reelId passes d).1.rq = d.rq
    ∧ (answerGrantPasses reelId passes d).1.gu = d.gu ∧ (answerGrantPasses reelId passes d).1.nl = d.nl
    ∧ (answerGrantPasses reelId passes d).1.counters = d.counters
    ∧ (answerGrantPasses reelId passes d).1.snapshot = d.snapshot
    ∧ (answerGrantPasses reelId passes d).1.pipe = d.pipe
    ∧ (answerGrantPasses reelId passes d).1.freeDraws = d.freeDraws := by
  simp only [answerGrantPasses, withReel, refuse]
  repeat' split
  all_goals simp

@[simp] theorem answerCloseSlot_frame (slot : BitVec 16) (d : Device) :
    (answerCloseSlot slot d).1.reels = d.reels ∧ (answerCloseSlot slot d).1.time = d.time
    ∧ (answerCloseSlot slot d).1.tc = d.tc ∧ (answerCloseSlot slot d).1.pt = d.pt
    ∧ (answerCloseSlot slot d).1.capstan = d.capstan ∧ (answerCloseSlot slot d).1.cu = d.cu
    ∧ (answerCloseSlot slot d).1.dm = d.dm ∧ (answerCloseSlot slot d).1.rq = d.rq
    ∧ (answerCloseSlot slot d).1.gu = d.gu ∧ (answerCloseSlot slot d).1.nl = d.nl
    ∧ (answerCloseSlot slot d).1.counters = d.counters ∧ (answerCloseSlot slot d).1.snapshot = d.snapshot
    ∧ (answerCloseSlot slot d).1.pipe = d.pipe ∧ (answerCloseSlot slot d).1.freeDraws = d.freeDraws := by
  simp only [answerCloseSlot, withSlot, refuse, refuseWith]
  repeat' split
  all_goals simp

@[simp] theorem answerOpenSlot_frame (slot : BitVec 16) (d : Device) :
    (answerOpenSlot slot d).1.time = d.time ∧ (answerOpenSlot slot d).1.tc = d.tc
    ∧ (answerOpenSlot slot d).1.pt = d.pt ∧ (answerOpenSlot slot d).1.capstan = d.capstan
    ∧ (answerOpenSlot slot d).1.cu = d.cu ∧ (answerOpenSlot slot d).1.dm = d.dm
    ∧ (answerOpenSlot slot d).1.rq = d.rq ∧ (answerOpenSlot slot d).1.gu = d.gu
    ∧ (answerOpenSlot slot d).1.counters = d.counters ∧ (answerOpenSlot slot d).1.snapshot = d.snapshot
    ∧ (answerOpenSlot slot d).1.pipe = d.pipe ∧ (answerOpenSlot slot d).1.freeDraws = d.freeDraws := by
  simp only [answerOpenSlot, withSlot, refuse, refuseWith]
  repeat' split
  all_goals simp

@[simp] theorem answerSetZoneTime_frame (zone : Byte) (minutes : BitVec 16) (d : Device) :
    (answerSetZoneTime zone minutes d).1.reels = d.reels ∧ (answerSetZoneTime zone minutes d).1.time = d.time
    ∧ (answerSetZoneTime zone minutes d).1.tc = d.tc ∧ (answerSetZoneTime zone minutes d).1.pt = d.pt
    ∧ (answerSetZoneTime zone minutes d).1.capstan = d.capstan ∧ (answerSetZoneTime zone minutes d).1.cu = d.cu
    ∧ (answerSetZoneTime zone minutes d).1.dm = d.dm ∧ (answerSetZoneTime zone minutes d).1.rq = d.rq
    ∧ (answerSetZoneTime zone minutes d).1.gu = d.gu ∧ (answerSetZoneTime zone minutes d).1.nl = d.nl
    ∧ (answerSetZoneTime zone minutes d).1.counters = d.counters
    ∧ (answerSetZoneTime zone minutes d).1.snapshot = d.snapshot
    ∧ (answerSetZoneTime zone minutes d).1.pipe = d.pipe
    ∧ (answerSetZoneTime zone minutes d).1.freeDraws = d.freeDraws := by
  simp only [answerSetZoneTime, withZone, refuse]
  repeat' split
  all_goals simp

@[simp] theorem answerSetZonePolicy_frame (cls : Byte) (mask : Byte) (d : Device) :
    (answerSetZonePolicy cls mask d).1.time = d.time ∧ (answerSetZonePolicy cls mask d).1.tc = d.tc
    ∧ (answerSetZonePolicy cls mask d).1.pt = d.pt ∧ (answerSetZonePolicy cls mask d).1.capstan = d.capstan
    ∧ (answerSetZonePolicy cls mask d).1.cu = d.cu ∧ (answerSetZonePolicy cls mask d).1.dm = d.dm
    ∧ (answerSetZonePolicy cls mask d).1.rq = d.rq ∧ (answerSetZonePolicy cls mask d).1.gu = d.gu
    ∧ (answerSetZonePolicy cls mask d).1.counters = d.counters
    ∧ (answerSetZonePolicy cls mask d).1.snapshot = d.snapshot ∧ (answerSetZonePolicy cls mask d).1.pipe = d.pipe
    ∧ (answerSetZonePolicy cls mask d).1.freeDraws = d.freeDraws := by
  simp only [answerSetZonePolicy, refuse]
  repeat' split
  all_goals simp

@[simp] theorem answerSetTransport_frame (op : TransportOperands) (d : Device) :
    (answerSetTransport op d).1.reels = d.reels ∧ (answerSetTransport op d).1.vault = d.vault
    ∧ (answerSetTransport op d).1.time = d.time ∧ (answerSetTransport op d).1.pt = d.pt
    ∧ (answerSetTransport op d).1.capstan = d.capstan ∧ (answerSetTransport op d).1.cu = d.cu
    ∧ (answerSetTransport op d).1.dm = d.dm ∧ (answerSetTransport op d).1.rq = d.rq
    ∧ (answerSetTransport op d).1.gu = d.gu ∧ (answerSetTransport op d).1.nl = d.nl
    ∧ (answerSetTransport op d).1.counters = d.counters ∧ (answerSetTransport op d).1.snapshot = d.snapshot
    ∧ (answerSetTransport op d).1.pipe = d.pipe ∧ (answerSetTransport op d).1.freeDraws = d.freeDraws := by
  simp only [answerSetTransport, refuse]
  repeat' split
  all_goals simp

@[simp] theorem answerRunPass_frame (first : FrameRef) (last : FrameRef) (speed : Byte) (d : Device) :
    (answerRunPass first last speed d).1.vault = d.vault ∧ (answerRunPass first last speed d).1.time = d.time
    ∧ (answerRunPass first last speed d).1.dm = d.dm ∧ (answerRunPass first last speed d).1.rq = d.rq
    ∧ (answerRunPass first last speed d).1.gu = d.gu ∧ (answerRunPass first last speed d).1.nl = d.nl
    ∧ (answerRunPass first last speed d).1.counters = d.counters
    ∧ (answerRunPass first last speed d).1.snapshot = d.snapshot
    ∧ (answerRunPass first last speed d).1.pipe = d.pipe
    ∧ (answerRunPass first last speed d).1.freeDraws = d.freeDraws := by
  simp only [answerRunPass, withFrame, refuse]
  repeat' split
  all_goals simp

@[simp] theorem answerStop_frame (d : Device) :
    (answerStop d).1.reels = d.reels ∧ (answerStop d).1.vault = d.vault ∧ (answerStop d).1.time = d.time
    ∧ (answerStop d).1.pt = d.pt ∧ (answerStop d).1.capstan = d.capstan ∧ (answerStop d).1.cu = d.cu
    ∧ (answerStop d).1.dm = d.dm ∧ (answerStop d).1.rq = d.rq ∧ (answerStop d).1.gu = d.gu
    ∧ (answerStop d).1.counters = d.counters ∧ (answerStop d).1.snapshot = d.snapshot
    ∧ (answerStop d).1.pipe = d.pipe ∧ (answerStop d).1.freeDraws = d.freeDraws := by
  simp only [answerStop, refuse]
  repeat' split
  all_goals simp

@[simp] theorem answerRelease_frame (d : Device) :
    (answerRelease d).1.reels = d.reels ∧ (answerRelease d).1.vault = d.vault ∧ (answerRelease d).1.time = d.time
    ∧ (answerRelease d).1.pt = d.pt ∧ (answerRelease d).1.capstan = d.capstan ∧ (answerRelease d).1.cu = d.cu
    ∧ (answerRelease d).1.dm = d.dm ∧ (answerRelease d).1.rq = d.rq ∧ (answerRelease d).1.gu = d.gu
    ∧ (answerRelease d).1.nl = d.nl ∧ (answerRelease d).1.counters = d.counters
    ∧ (answerRelease d).1.snapshot = d.snapshot ∧ (answerRelease d).1.pipe = d.pipe
    ∧ (answerRelease d).1.freeDraws = d.freeDraws := by
  simp only [answerRelease, refuse]
  repeat' split
  all_goals simp

@[simp] theorem answerClearIncident_frame (d : Device) :
    (answerClearIncident d).1.reels = d.reels ∧ (answerClearIncident d).1.vault = d.vault
    ∧ (answerClearIncident d).1.time = d.time ∧ (answerClearIncident d).1.pt = d.pt
    ∧ (answerClearIncident d).1.capstan = d.capstan ∧ (answerClearIncident d).1.cu = d.cu
    ∧ (answerClearIncident d).1.dm = d.dm ∧ (answerClearIncident d).1.rq = d.rq
    ∧ (answerClearIncident d).1.gu = d.gu ∧ (answerClearIncident d).1.nl = d.nl
    ∧ (answerClearIncident d).1.counters = d.counters ∧ (answerClearIncident d).1.snapshot = d.snapshot
    ∧ (answerClearIncident d).1.pipe = d.pipe ∧ (answerClearIncident d).1.freeDraws = d.freeDraws := by
  simp only [answerClearIncident]
  all_goals simp

@[simp] theorem answerSetHead_frame (ref : FrameRef) (d : Device) :
    (answerSetHead ref d).1.reels = d.reels ∧ (answerSetHead ref d).1.vault = d.vault
    ∧ (answerSetHead ref d).1.time = d.time ∧ (answerSetHead ref d).1.capstan = d.capstan
    ∧ (answerSetHead ref d).1.cu = d.cu ∧ (answerSetHead ref d).1.dm = d.dm ∧ (answerSetHead ref d).1.rq = d.rq
    ∧ (answerSetHead ref d).1.gu = d.gu ∧ (answerSetHead ref d).1.nl = d.nl
    ∧ (answerSetHead ref d).1.counters = d.counters ∧ (answerSetHead ref d).1.snapshot = d.snapshot
    ∧ (answerSetHead ref d).1.pipe = d.pipe ∧ (answerSetHead ref d).1.freeDraws = d.freeDraws := by
  simp only [answerSetHead, withFrame, refuse]
  repeat' split
  all_goals simp

@[simp] theorem answerSetMark_frame (mark : Byte) (ref : FrameRef) (d : Device) :
    (answerSetMark mark ref d).1.reels = d.reels ∧ (answerSetMark mark ref d).1.vault = d.vault
    ∧ (answerSetMark mark ref d).1.time = d.time ∧ (answerSetMark mark ref d).1.tc = d.tc
    ∧ (answerSetMark mark ref d).1.capstan = d.capstan ∧ (answerSetMark mark ref d).1.cu = d.cu
    ∧ (answerSetMark mark ref d).1.dm = d.dm ∧ (answerSetMark mark ref d).1.rq = d.rq
    ∧ (answerSetMark mark ref d).1.gu = d.gu ∧ (answerSetMark mark ref d).1.nl = d.nl
    ∧ (answerSetMark mark ref d).1.counters = d.counters ∧ (answerSetMark mark ref d).1.snapshot = d.snapshot
    ∧ (answerSetMark mark ref d).1.pipe = d.pipe ∧ (answerSetMark mark ref d).1.freeDraws = d.freeDraws := by
  simp only [answerSetMark, withFrame, refuse]
  repeat' split
  all_goals simp

@[simp] theorem answerSetCapture_frame (timeout : BitVec 16) (dust : BitVec 16) (scratch : BitVec 16) (d : Device) :
    (answerSetCapture timeout dust scratch d).1.reels = d.reels
    ∧ (answerSetCapture timeout dust scratch d).1.vault = d.vault
    ∧ (answerSetCapture timeout dust scratch d).1.time = d.time
    ∧ (answerSetCapture timeout dust scratch d).1.tc = d.tc ∧ (answerSetCapture timeout dust scratch d).1.pt = d.pt
    ∧ (answerSetCapture timeout dust scratch d).1.capstan = d.capstan
    ∧ (answerSetCapture timeout dust scratch d).1.dm = d.dm ∧ (answerSetCapture timeout dust scratch d).1.rq = d.rq
    ∧ (answerSetCapture timeout dust scratch d).1.gu = d.gu ∧ (answerSetCapture timeout dust scratch d).1.nl = d.nl
    ∧ (answerSetCapture timeout dust scratch d).1.counters = d.counters
    ∧ (answerSetCapture timeout dust scratch d).1.snapshot = d.snapshot
    ∧ (answerSetCapture timeout dust scratch d).1.pipe = d.pipe
    ∧ (answerSetCapture timeout dust scratch d).1.freeDraws = d.freeDraws := by
  simp only [answerSetCapture]
  all_goals simp

@[simp] theorem answerAddDefect_frame (op : AddDefectOperands) (d : Device) :
    (answerAddDefect op d).1.reels = d.reels ∧ (answerAddDefect op d).1.vault = d.vault
    ∧ (answerAddDefect op d).1.time = d.time ∧ (answerAddDefect op d).1.tc = d.tc
    ∧ (answerAddDefect op d).1.pt = d.pt ∧ (answerAddDefect op d).1.capstan = d.capstan
    ∧ (answerAddDefect op d).1.cu = d.cu ∧ (answerAddDefect op d).1.gu = d.gu
    ∧ (answerAddDefect op d).1.snapshot = d.snapshot ∧ (answerAddDefect op d).1.pipe = d.pipe
    ∧ (answerAddDefect op d).1.freeDraws = d.freeDraws := by
  simp only [answerAddDefect, withFrame, refuse]
  repeat' split
  all_goals simp

@[simp] theorem answerQueueDefect_frame (defect : BitVec 16) (priority : Byte) (d : Device) :
    (answerQueueDefect defect priority d).1.reels = d.reels
    ∧ (answerQueueDefect defect priority d).1.vault = d.vault
    ∧ (answerQueueDefect defect priority d).1.time = d.time ∧ (answerQueueDefect defect priority d).1.tc = d.tc
    ∧ (answerQueueDefect defect priority d).1.pt = d.pt
    ∧ (answerQueueDefect defect priority d).1.capstan = d.capstan
    ∧ (answerQueueDefect defect priority d).1.cu = d.cu ∧ (answerQueueDefect defect priority d).1.gu = d.gu
    ∧ (answerQueueDefect defect priority d).1.snapshot = d.snapshot
    ∧ (answerQueueDefect defect priority d).1.pipe = d.pipe
    ∧ (answerQueueDefect defect priority d).1.freeDraws = d.freeDraws := by
  simp only [answerQueueDefect, withDefect, refuse, refuseWith]
  repeat' split
  all_goals simp

@[simp] theorem answerWaiveDefect_frame (defect : BitVec 16) (d : Device) :
    (answerWaiveDefect defect d).1.reels = d.reels ∧ (answerWaiveDefect defect d).1.vault = d.vault
    ∧ (answerWaiveDefect defect d).1.time = d.time ∧ (answerWaiveDefect defect d).1.tc = d.tc
    ∧ (answerWaiveDefect defect d).1.pt = d.pt ∧ (answerWaiveDefect defect d).1.capstan = d.capstan
    ∧ (answerWaiveDefect defect d).1.cu = d.cu ∧ (answerWaiveDefect defect d).1.gu = d.gu
    ∧ (answerWaiveDefect defect d).1.nl = d.nl ∧ (answerWaiveDefect defect d).1.counters = d.counters
    ∧ (answerWaiveDefect defect d).1.snapshot = d.snapshot ∧ (answerWaiveDefect defect d).1.pipe = d.pipe
    ∧ (answerWaiveDefect defect d).1.freeDraws = d.freeDraws := by
  simp only [answerWaiveDefect, withDefect, refuse, refuseWith]
  repeat' split
  all_goals simp

@[simp] theorem answerRequeueDefect_frame (defect : BitVec 16) (priority : Byte) (d : Device) :
    (answerRequeueDefect defect priority d).1.reels = d.reels
    ∧ (answerRequeueDefect defect priority d).1.vault = d.vault
    ∧ (answerRequeueDefect defect priority d).1.time = d.time ∧ (answerRequeueDefect defect priority d).1.tc = d.tc
    ∧ (answerRequeueDefect defect priority d).1.pt = d.pt
    ∧ (answerRequeueDefect defect priority d).1.capstan = d.capstan
    ∧ (answerRequeueDefect defect priority d).1.cu = d.cu ∧ (answerRequeueDefect defect priority d).1.gu = d.gu
    ∧ (answerRequeueDefect defect priority d).1.nl = d.nl
    ∧ (answerRequeueDefect defect priority d).1.counters = d.counters
    ∧ (answerRequeueDefect defect priority d).1.snapshot = d.snapshot
    ∧ (answerRequeueDefect defect priority d).1.pipe = d.pipe
    ∧ (answerRequeueDefect defect priority d).1.freeDraws = d.freeDraws := by
  simp only [answerRequeueDefect, withDefect, refuse, refuseWith]
  repeat' split
  all_goals simp

@[simp] theorem answerSetDefectPolicy_frame (kind : Byte) (threshold : Byte) (d : Device) :
    (answerSetDefectPolicy kind threshold d).1.reels = d.reels
    ∧ (answerSetDefectPolicy kind threshold d).1.vault = d.vault
    ∧ (answerSetDefectPolicy kind threshold d).1.time = d.time
    ∧ (answerSetDefectPolicy kind threshold d).1.tc = d.tc ∧ (answerSetDefectPolicy kind threshold d).1.pt = d.pt
    ∧ (answerSetDefectPolicy kind threshold d).1.capstan = d.capstan
    ∧ (answerSetDefectPolicy kind threshold d).1.cu = d.cu ∧ (answerSetDefectPolicy kind threshold d).1.rq = d.rq
    ∧ (answerSetDefectPolicy kind threshold d).1.gu = d.gu ∧ (answerSetDefectPolicy kind threshold d).1.nl = d.nl
    ∧ (answerSetDefectPolicy kind threshold d).1.counters = d.counters
    ∧ (answerSetDefectPolicy kind threshold d).1.snapshot = d.snapshot
    ∧ (answerSetDefectPolicy kind threshold d).1.pipe = d.pipe
    ∧ (answerSetDefectPolicy kind threshold d).1.freeDraws = d.freeDraws := by
  simp only [answerSetDefectPolicy, refuse]
  repeat' split
  all_goals simp

@[simp] theorem answerSetStation_frame (station : Byte) (enabled : Byte) (mask : Byte) (d : Device) :
    (answerSetStation station enabled mask d).1.reels = d.reels
    ∧ (answerSetStation station enabled mask d).1.vault = d.vault
    ∧ (answerSetStation station enabled mask d).1.time = d.time
    ∧ (answerSetStation station enabled mask d).1.tc = d.tc ∧ (answerSetStation station enabled mask d).1.pt = d.pt
    ∧ (answerSetStation station enabled mask d).1.capstan = d.capstan
    ∧ (answerSetStation station enabled mask d).1.cu = d.cu ∧ (answerSetStation station enabled mask d).1.gu = d.gu
    ∧ (answerSetStation station enabled mask d).1.nl = d.nl
    ∧ (answerSetStation station enabled mask d).1.counters = d.counters
    ∧ (answerSetStation station enabled mask d).1.snapshot = d.snapshot
    ∧ (answerSetStation station enabled mask d).1.pipe = d.pipe
    ∧ (answerSetStation station enabled mask d).1.freeDraws = d.freeDraws := by
  simp only [answerSetStation, refuse]
  repeat' split
  all_goals simp

@[simp] theorem answerTakeWork_frame (station : Byte) (d : Device) :
    (answerTakeWork station d).1.reels = d.reels ∧ (answerTakeWork station d).1.vault = d.vault
    ∧ (answerTakeWork station d).1.time = d.time ∧ (answerTakeWork station d).1.tc = d.tc
    ∧ (answerTakeWork station d).1.pt = d.pt ∧ (answerTakeWork station d).1.capstan = d.capstan
    ∧ (answerTakeWork station d).1.cu = d.cu ∧ (answerTakeWork station d).1.gu = d.gu
    ∧ (answerTakeWork station d).1.nl = d.nl ∧ (answerTakeWork station d).1.counters = d.counters
    ∧ (answerTakeWork station d).1.snapshot = d.snapshot ∧ (answerTakeWork station d).1.pipe = d.pipe
    ∧ (answerTakeWork station d).1.freeDraws = d.freeDraws := by
  simp only [answerTakeWork, refuse, refuseWith]
  repeat' split
  all_goals simp

@[simp] theorem answerReturnWork_frame (station : Byte) (defect : BitVec 16) (d : Device) :
    (answerReturnWork station defect d).1.reels = d.reels ∧ (answerReturnWork station defect d).1.vault = d.vault
    ∧ (answerReturnWork station defect d).1.time = d.time ∧ (answerReturnWork station defect d).1.tc = d.tc
    ∧ (answerReturnWork station defect d).1.pt = d.pt ∧ (answerReturnWork station defect d).1.capstan = d.capstan
    ∧ (answerReturnWork station defect d).1.cu = d.cu ∧ (answerReturnWork station defect d).1.gu = d.gu
    ∧ (answerReturnWork station defect d).1.nl = d.nl ∧ (answerReturnWork station defect d).1.counters = d.counters
    ∧ (answerReturnWork station defect d).1.snapshot = d.snapshot
    ∧ (answerReturnWork station defect d).1.pipe = d.pipe
    ∧ (answerReturnWork station defect d).1.freeDraws = d.freeDraws := by
  simp only [answerReturnWork, withHeld, refuse, refuseWith]
  repeat' split
  all_goals simp

@[simp] theorem answerCompleteWork_frame (station : Byte) (defect : BitVec 16) (outcome : Byte) (d : Device) :
    (answerCompleteWork station defect outcome d).1.reels = d.reels
    ∧ (answerCompleteWork station defect outcome d).1.vault = d.vault
    ∧ (answerCompleteWork station defect outcome d).1.time = d.time
    ∧ (answerCompleteWork station defect outcome d).1.tc = d.tc
    ∧ (answerCompleteWork station defect outcome d).1.pt = d.pt
    ∧ (answerCompleteWork station defect outcome d).1.capstan = d.capstan
    ∧ (answerCompleteWork station defect outcome d).1.cu = d.cu
    ∧ (answerCompleteWork station defect outcome d).1.gu = d.gu
    ∧ (answerCompleteWork station defect outcome d).1.nl = d.nl
    ∧ (answerCompleteWork station defect outcome d).1.counters = d.counters
    ∧ (answerCompleteWork station defect outcome d).1.snapshot = d.snapshot
    ∧ (answerCompleteWork station defect outcome d).1.pipe = d.pipe
    ∧ (answerCompleteWork station defect outcome d).1.freeDraws = d.freeDraws := by
  simp only [answerCompleteWork, withHeld, refuse, refuseWith]
  repeat' split
  all_goals simp

@[simp] theorem answerUndoRepair_frame (d : Device) :
    (answerUndoRepair d).1.reels = d.reels ∧ (answerUndoRepair d).1.vault = d.vault
    ∧ (answerUndoRepair d).1.time = d.time ∧ (answerUndoRepair d).1.tc = d.tc ∧ (answerUndoRepair d).1.pt = d.pt
    ∧ (answerUndoRepair d).1.capstan = d.capstan ∧ (answerUndoRepair d).1.cu = d.cu
    ∧ (answerUndoRepair d).1.gu = d.gu ∧ (answerUndoRepair d).1.nl = d.nl
    ∧ (answerUndoRepair d).1.counters = d.counters ∧ (answerUndoRepair d).1.snapshot = d.snapshot
    ∧ (answerUndoRepair d).1.pipe = d.pipe ∧ (answerUndoRepair d).1.freeDraws = d.freeDraws := by
  simp only [answerUndoRepair, refuse, refuseWith]
  repeat' split
  all_goals simp

@[simp] theorem answerDefineShot_frame (ref : FrameRef) (label : BitVec 32) (d : Device) :
    (answerDefineShot ref label d).1.reels = d.reels ∧ (answerDefineShot ref label d).1.vault = d.vault
    ∧ (answerDefineShot ref label d).1.time = d.time ∧ (answerDefineShot ref label d).1.tc = d.tc
    ∧ (answerDefineShot ref label d).1.pt = d.pt ∧ (answerDefineShot ref label d).1.capstan = d.capstan
    ∧ (answerDefineShot ref label d).1.cu = d.cu ∧ (answerDefineShot ref label d).1.dm = d.dm
    ∧ (answerDefineShot ref label d).1.rq = d.rq ∧ (answerDefineShot ref label d).1.nl = d.nl
    ∧ (answerDefineShot ref label d).1.counters = d.counters
    ∧ (answerDefineShot ref label d).1.snapshot = d.snapshot ∧ (answerDefineShot ref label d).1.pipe = d.pipe
    ∧ (answerDefineShot ref label d).1.freeDraws = d.freeDraws := by
  simp only [answerDefineShot, withFrame, refuse]
  repeat' split
  all_goals simp

@[simp] theorem answerDeleteShot_frame (index : BitVec 16) (d : Device) :
    (answerDeleteShot index d).1.reels = d.reels ∧ (answerDeleteShot index d).1.vault = d.vault
    ∧ (answerDeleteShot index d).1.time = d.time ∧ (answerDeleteShot index d).1.tc = d.tc
    ∧ (answerDeleteShot index d).1.pt = d.pt ∧ (answerDeleteShot index d).1.capstan = d.capstan
    ∧ (answerDeleteShot index d).1.cu = d.cu ∧ (answerDeleteShot index d).1.dm = d.dm
    ∧ (answerDeleteShot index d).1.rq = d.rq ∧ (answerDeleteShot index d).1.nl = d.nl
    ∧ (answerDeleteShot index d).1.counters = d.counters ∧ (answerDeleteShot index d).1.snapshot = d.snapshot
    ∧ (answerDeleteShot index d).1.pipe = d.pipe ∧ (answerDeleteShot index d).1.freeDraws = d.freeDraws := by
  simp only [answerDeleteShot, withShot, refuse]
  repeat' split
  all_goals simp

@[simp] theorem answerLockShot_frame (index : BitVec 16) (d : Device) :
    (answerLockShot index d).1.reels = d.reels ∧ (answerLockShot index d).1.vault = d.vault
    ∧ (answerLockShot index d).1.time = d.time ∧ (answerLockShot index d).1.tc = d.tc
    ∧ (answerLockShot index d).1.pt = d.pt ∧ (answerLockShot index d).1.capstan = d.capstan
    ∧ (answerLockShot index d).1.cu = d.cu ∧ (answerLockShot index d).1.dm = d.dm
    ∧ (answerLockShot index d).1.rq = d.rq ∧ (answerLockShot index d).1.nl = d.nl
    ∧ (answerLockShot index d).1.counters = d.counters ∧ (answerLockShot index d).1.snapshot = d.snapshot
    ∧ (answerLockShot index d).1.pipe = d.pipe ∧ (answerLockShot index d).1.freeDraws = d.freeDraws := by
  simp only [answerLockShot, withShot, refuse]
  repeat' split
  all_goals simp

@[simp] theorem answerUnlockShot_frame (index : BitVec 16) (d : Device) :
    (answerUnlockShot index d).1.reels = d.reels ∧ (answerUnlockShot index d).1.vault = d.vault
    ∧ (answerUnlockShot index d).1.time = d.time ∧ (answerUnlockShot index d).1.tc = d.tc
    ∧ (answerUnlockShot index d).1.pt = d.pt ∧ (answerUnlockShot index d).1.capstan = d.capstan
    ∧ (answerUnlockShot index d).1.cu = d.cu ∧ (answerUnlockShot index d).1.dm = d.dm
    ∧ (answerUnlockShot index d).1.rq = d.rq ∧ (answerUnlockShot index d).1.nl = d.nl
    ∧ (answerUnlockShot index d).1.counters = d.counters ∧ (answerUnlockShot index d).1.snapshot = d.snapshot
    ∧ (answerUnlockShot index d).1.pipe = d.pipe ∧ (answerUnlockShot index d).1.freeDraws = d.freeDraws := by
  simp only [answerUnlockShot, withShot, refuse]
  repeat' split
  all_goals simp

@[simp] theorem answerSetRule_frame (op : RuleOperands) (d : Device) :
    (answerSetRule op d).1.reels = d.reels ∧ (answerSetRule op d).1.vault = d.vault
    ∧ (answerSetRule op d).1.time = d.time ∧ (answerSetRule op d).1.tc = d.tc ∧ (answerSetRule op d).1.pt = d.pt
    ∧ (answerSetRule op d).1.capstan = d.capstan ∧ (answerSetRule op d).1.cu = d.cu
    ∧ (answerSetRule op d).1.dm = d.dm ∧ (answerSetRule op d).1.rq = d.rq ∧ (answerSetRule op d).1.nl = d.nl
    ∧ (answerSetRule op d).1.counters = d.counters ∧ (answerSetRule op d).1.snapshot = d.snapshot
    ∧ (answerSetRule op d).1.pipe = d.pipe ∧ (answerSetRule op d).1.freeDraws = d.freeDraws := by
  simp only [answerSetRule, refuse]
  repeat' split
  all_goals simp

@[simp] theorem answerClearRule_frame (rule : Byte) (d : Device) :
    (answerClearRule rule d).1.reels = d.reels ∧ (answerClearRule rule d).1.vault = d.vault
    ∧ (answerClearRule rule d).1.time = d.time ∧ (answerClearRule rule d).1.tc = d.tc
    ∧ (answerClearRule rule d).1.pt = d.pt ∧ (answerClearRule rule d).1.capstan = d.capstan
    ∧ (answerClearRule rule d).1.cu = d.cu ∧ (answerClearRule rule d).1.dm = d.dm
    ∧ (answerClearRule rule d).1.rq = d.rq ∧ (answerClearRule rule d).1.nl = d.nl
    ∧ (answerClearRule rule d).1.counters = d.counters ∧ (answerClearRule rule d).1.snapshot = d.snapshot
    ∧ (answerClearRule rule d).1.pipe = d.pipe ∧ (answerClearRule rule d).1.freeDraws = d.freeDraws := by
  simp only [answerClearRule, refuse]
  repeat' split
  all_goals simp

@[simp] theorem answerSetFadeWindow_frame (exponent : Byte) (d : Device) :
    (answerSetFadeWindow exponent d).1.reels = d.reels ∧ (answerSetFadeWindow exponent d).1.vault = d.vault
    ∧ (answerSetFadeWindow exponent d).1.time = d.time ∧ (answerSetFadeWindow exponent d).1.tc = d.tc
    ∧ (answerSetFadeWindow exponent d).1.pt = d.pt ∧ (answerSetFadeWindow exponent d).1.capstan = d.capstan
    ∧ (answerSetFadeWindow exponent d).1.cu = d.cu ∧ (answerSetFadeWindow exponent d).1.dm = d.dm
    ∧ (answerSetFadeWindow exponent d).1.rq = d.rq ∧ (answerSetFadeWindow exponent d).1.nl = d.nl
    ∧ (answerSetFadeWindow exponent d).1.counters = d.counters
    ∧ (answerSetFadeWindow exponent d).1.snapshot = d.snapshot ∧ (answerSetFadeWindow exponent d).1.pipe = d.pipe
    ∧ (answerSetFadeWindow exponent d).1.freeDraws = d.freeDraws := by
  simp only [answerSetFadeWindow, refuse]
  repeat' split
  all_goals simp

@[simp] theorem answerClearExtremes_frame (d : Device) :
    (answerClearExtremes d).1.reels = d.reels ∧ (answerClearExtremes d).1.vault = d.vault
    ∧ (answerClearExtremes d).1.time = d.time ∧ (answerClearExtremes d).1.tc = d.tc
    ∧ (answerClearExtremes d).1.pt = d.pt ∧ (answerClearExtremes d).1.capstan = d.capstan
    ∧ (answerClearExtremes d).1.cu = d.cu ∧ (answerClearExtremes d).1.dm = d.dm
    ∧ (answerClearExtremes d).1.rq = d.rq ∧ (answerClearExtremes d).1.nl = d.nl
    ∧ (answerClearExtremes d).1.counters = d.counters ∧ (answerClearExtremes d).1.snapshot = d.snapshot
    ∧ (answerClearExtremes d).1.pipe = d.pipe ∧ (answerClearExtremes d).1.freeDraws = d.freeDraws := by
  simp only [answerClearExtremes]
  all_goals simp

@[simp] theorem answerFetchNotices_frame (d : Device) :
    (answerFetchNotices d).1.reels = d.reels ∧ (answerFetchNotices d).1.vault = d.vault
    ∧ (answerFetchNotices d).1.time = d.time ∧ (answerFetchNotices d).1.tc = d.tc
    ∧ (answerFetchNotices d).1.pt = d.pt ∧ (answerFetchNotices d).1.capstan = d.capstan
    ∧ (answerFetchNotices d).1.cu = d.cu ∧ (answerFetchNotices d).1.dm = d.dm ∧ (answerFetchNotices d).1.rq = d.rq
    ∧ (answerFetchNotices d).1.gu = d.gu ∧ (answerFetchNotices d).1.counters = d.counters
    ∧ (answerFetchNotices d).1.snapshot = d.snapshot ∧ (answerFetchNotices d).1.pipe = d.pipe
    ∧ (answerFetchNotices d).1.freeDraws = d.freeDraws := by
  simp only [answerFetchNotices]
  all_goals simp

@[simp] theorem answerSetAttentionMask_frame (mask : BitVec 16) (d : Device) :
    (answerSetAttentionMask mask d).1.reels = d.reels ∧ (answerSetAttentionMask mask d).1.vault = d.vault
    ∧ (answerSetAttentionMask mask d).1.time = d.time ∧ (answerSetAttentionMask mask d).1.tc = d.tc
    ∧ (answerSetAttentionMask mask d).1.pt = d.pt ∧ (answerSetAttentionMask mask d).1.capstan = d.capstan
    ∧ (answerSetAttentionMask mask d).1.cu = d.cu ∧ (answerSetAttentionMask mask d).1.dm = d.dm
    ∧ (answerSetAttentionMask mask d).1.rq = d.rq ∧ (answerSetAttentionMask mask d).1.gu = d.gu
    ∧ (answerSetAttentionMask mask d).1.counters = d.counters
    ∧ (answerSetAttentionMask mask d).1.snapshot = d.snapshot ∧ (answerSetAttentionMask mask d).1.pipe = d.pipe
    ∧ (answerSetAttentionMask mask d).1.freeDraws = d.freeDraws := by
  simp only [answerSetAttentionMask, refuse]
  repeat' split
  all_goals simp

/-- No request changes the run counter or the free values drawn. -/
@[simp] theorem carryOut_runCounter (h : HostLink) (q : Request) (d : Device) :
    (carryOut h q d).1.time.runCounter = d.time.runCounter := by
  cases q <;> simp only [carryOut]
  case adjustClock => simp only [answerAdjustClock, refuse]; split <;> rfl
  case trimClock => rfl
  all_goals simp

end Sys2Proof.Machine
end

