-- ==== Sys2Proof/Laws/Encoding.lean ====
section
/-! SUPPORT. The wire: what each reader makes of what its writer wrote, kinds and their codes, and frames. -/

namespace Sys2Proof

/-! ### Fields (R183) -/

@[simp] theorem rd8_cons (x : Byte) (rest : List Byte) : rd8 (x :: rest) = some (x, rest) := rfl

theorem halves16 (x : BitVec 16) : x.extractLsb' 8 8 ++ x.extractLsb' 0 8 = x := by
  apply BitVec.eq_of_getLsbD_eq
  intro i hi
  simp only [BitVec.getLsbD_append, BitVec.getLsbD_extractLsb']
  split
  · simp [*]
  · simp [show 8 + (i - 8) = i by omega, show i - 8 < 8 by omega]
theorem quarters32 (x : BitVec 32) : x.extractLsb' 24 8 ++ x.extractLsb' 16 8 ++ x.extractLsb' 8 8 ++ x.extractLsb' 0 8 = x := by
  apply BitVec.eq_of_getLsbD_eq
  intro i hi
  simp only [BitVec.getLsbD_append, BitVec.getLsbD_extractLsb']
  split
  · simp [*]
  split
  · simp [show 8 + (i - 8) = i by omega, *]
  split
  · simp [show 16 + (i - 8 - 8) = i by omega, *]
  · simp [show 24 + (i - 8 - 8 - 8) = i by omega, show i - 8 - 8 - 8 < 8 by omega]

@[simp] theorem rd16_be16 (x : BitVec 16) (rest : List Byte) : rd16 (be16 x ++ rest) = some (x, rest) := by
  simp [rd16, be16, halves16]

@[simp] theorem rd32_be32 (x : BitVec 32) (rest : List Byte) : rd32 (be32 x ++ rest) = some (x, rest) := by
  simp [rd32, be32, quarters32]

@[simp] theorem rd16_be16_end (x : BitVec 16) : rd16 (be16 x) = some (x, []) := by simpa using rd16_be16 x []

@[simp] theorem rd32_be32_end (x : BitVec 32) : rd32 (be32 x) = some (x, []) := by simpa using rd32_be32 x []

/-- A reader that undoes a writer does so for triples. -/
theorem rdTriple_wrTriple {α : Type} {rd : Reader α} {wr : α → List Byte}
    (h : ∀ x rest, rd (wr x ++ rest) = some (x, rest)) (c : PerChannel α) (rest : List Byte) :
    rdTriple rd (wrTriple wr c ++ rest) = some (c, rest) := by
  simp [rdTriple, wrTriple, h]

@[simp] theorem rdTriple_be16 (c : PerChannel (BitVec 16)) (rest : List Byte) :
    rdTriple rd16 (wrTriple be16 c ++ rest) = some (c, rest) := rdTriple_wrTriple rd16_be16 c rest

@[simp] theorem rdTriple_be16_end (c : PerChannel (BitVec 16)) :
    rdTriple rd16 (wrTriple be16 c) = some (c, []) := by simpa using rdTriple_be16 c []

@[simp] theorem rdFrameRef_wrFrameRef (x : FrameRef) (rest : List Byte) : rdFrameRef (wrFrameRef x ++ rest) = some (x, rest) := by
  simp [rdFrameRef, wrFrameRef]

@[simp] theorem rdFrameRef_wrFrameRef_end (x : FrameRef) : rdFrameRef (wrFrameRef x) = some (x, []) := by simpa using rdFrameRef_wrFrameRef x []

@[simp] theorem rdLocation_wrLocation (x : LocationOperand) (rest : List Byte) : rdLocation (wrLocation x ++ rest) = some (x, rest) := by
  simp [rdLocation, wrLocation]

@[simp] theorem rdLocation_wrLocation_end (x : LocationOperand) : rdLocation (wrLocation x) = some (x, []) := by simpa using rdLocation_wrLocation x []

@[simp] theorem rdChannelRule_wrChannelRule (x : ChannelRuleOperands) (rest : List Byte) : rdChannelRule (wrChannelRule x ++ rest) = some (x, rest) := by
  simp [rdChannelRule, wrChannelRule]

@[simp] theorem rdChannelRule_wrChannelRule_end (x : ChannelRuleOperands) : rdChannelRule (wrChannelRule x) = some (x, []) := by simpa using rdChannelRule_wrChannelRule x []

@[simp] theorem rdEnrol_wrEnrol (x : EnrolOperands) (rest : List Byte) : rdEnrol (wrEnrol x ++ rest) = some (x, rest) := by
  simp [rdEnrol, wrEnrol]

@[simp] theorem rdEnrol_wrEnrol_end (x : EnrolOperands) : rdEnrol (wrEnrol x) = some (x, []) := by simpa using rdEnrol_wrEnrol x []

@[simp] theorem rdCondition_wrCondition (x : ConditionOperands) (rest : List Byte) : rdCondition (wrCondition x ++ rest) = some (x, rest) := by
  simp [rdCondition, wrCondition]

@[simp] theorem rdCondition_wrCondition_end (x : ConditionOperands) : rdCondition (wrCondition x) = some (x, []) := by simpa using rdCondition_wrCondition x []

@[simp] theorem rdTransport_wrTransport (x : TransportOperands) (rest : List Byte) : rdTransport (wrTransport x ++ rest) = some (x, rest) := by
  simp [rdTransport, wrTransport]

@[simp] theorem rdTransport_wrTransport_end (x : TransportOperands) : rdTransport (wrTransport x) = some (x, []) := by simpa using rdTransport_wrTransport x []

@[simp] theorem rdAddDefect_wrAddDefect (x : AddDefectOperands) (rest : List Byte) : rdAddDefect (wrAddDefect x ++ rest) = some (x, rest) := by
  simp [rdAddDefect, wrAddDefect]

@[simp] theorem rdAddDefect_wrAddDefect_end (x : AddDefectOperands) : rdAddDefect (wrAddDefect x) = some (x, []) := by simpa using rdAddDefect_wrAddDefect x []

@[simp] theorem rdListDefects_wrListDefects (x : ListDefectsOperands) (rest : List Byte) : rdListDefects (wrListDefects x ++ rest) = some (x, rest) := by
  simp [rdListDefects, wrListDefects]

@[simp] theorem rdListDefects_wrListDefects_end (x : ListDefectsOperands) : rdListDefects (wrListDefects x) = some (x, []) := by simpa using rdListDefects_wrListDefects x []

@[simp] theorem rdTriple_channelRule (c : PerChannel ChannelRuleOperands) (rest : List Byte) :
    rdTriple rdChannelRule (wrTriple wrChannelRule c ++ rest) = some (c, rest) :=
  rdTriple_wrTriple rdChannelRule_wrChannelRule c rest

@[simp] theorem rdRule_wrRule (x : RuleOperands) (rest : List Byte) : rdRule (wrRule x ++ rest) = some (x, rest) := by
  simp [rdRule, wrRule]

@[simp] theorem rdRule_wrRule_end (x : RuleOperands) : rdRule (wrRule x) = some (x, []) := by simpa using rdRule_wrRule x []

/-! ### Kinds and bodies (R175, 11.7) -/

/-- A kind's code names the kind. -/
@[simp] theorem Kind.ofCode_code (k : Kind) : Kind.ofCode k.code = some k := by cases k <;> rfl

theorem parseBody_loadReel (reelId : BitVec 32) (head : Option (BitVec 16)) :
    parseBody .loadReel (Request.body (.loadReel reelId head)) = some (.loadReel reelId head) := by
  cases head <;> simp [parseBody, Request.body, atEnd, be16, rd16, halves16]

/-- A body of a kind is read as the request it carries. -/
theorem parseBody_body (q : Request) : parseBody q.kind q.body = some q := by
  cases q <;> first | rfl | exact parseBody_loadReel _ _ | simp [Request.kind, Request.body, parseBody, atEnd]

/-! ### What a reader takes is what its writer writes (R175, R183) -/

theorem be16_append (x y : Byte) : be16 (x ++ y) = [x, y] := by
  simp only [be16, List.cons.injEq, and_true]
  refine ⟨?_, ?_⟩ <;> apply BitVec.eq_of_getLsbD_eq <;> intro i hi <;>
    simp only [BitVec.getLsbD_extractLsb', hi, decide_true, Bool.true_and] <;>
    refine BitVec.getLsbD_append.trans ?_ <;> simp [hi]

theorem be32_append (x y z w : Byte) : be32 (x ++ y ++ z ++ w) = [x, y, z, w] := by
  simp only [be32, List.cons.injEq, and_true]
  refine ⟨?_, ?_, ?_, ?_⟩ <;> apply BitVec.eq_of_getLsbD_eq <;> intro i hi <;>
    simp only [BitVec.getLsbD_extractLsb', hi, decide_true, Bool.true_and] <;>
    refine BitVec.getLsbD_append.trans ?_
  · rw [if_neg (by omega), show 24 + i - 8 = 16 + i by omega]
    refine BitVec.getLsbD_append.trans ?_
    rw [if_neg (by omega), show 16 + i - 8 = 8 + i by omega]
    refine BitVec.getLsbD_append.trans ?_
    simp
  · rw [if_neg (by omega), show 16 + i - 8 = 8 + i by omega]
    refine BitVec.getLsbD_append.trans ?_
    rw [if_neg (by omega), show 8 + i - 8 = i by omega]
    refine BitVec.getLsbD_append.trans ?_
    simp [hi]
  · rw [if_neg (by omega), show 8 + i - 8 = i by omega]
    refine BitVec.getLsbD_append.trans ?_
    simp [hi]
  · simp [hi]

theorem rd8_some {b rest : List Byte} {x : Byte} : rd8 b = some (x, rest) ↔ b = [x] ++ rest := by
  cases b <;> simp [rd8]

theorem rd16_some {b rest : List Byte} {x : BitVec 16} : rd16 b = some (x, rest) ↔ b = be16 x ++ rest := by
  refine ⟨fun h => ?_, fun h => by rw [h, rd16_be16]⟩
  match b, h with
  | y :: z :: t, h =>
    simp only [rd16, Option.some.injEq, Prod.mk.injEq] at h
    rw [← h.1, ← h.2, be16_append]
    rfl

theorem rd32_some {b rest : List Byte} {x : BitVec 32} : rd32 b = some (x, rest) ↔ b = be32 x ++ rest := by
  refine ⟨fun h => ?_, fun h => by rw [h, rd32_be32]⟩
  match b, h with
  | y :: z :: u :: v :: t, h =>
    simp only [rd32, Option.some.injEq, Prod.mk.injEq] at h
    rw [← h.1, ← h.2, be32_append]
    rfl

theorem atEnd_some {α : Type} {x y : α} {b : List Byte} : atEnd x b = some y ↔ b = [] ∧ x = y := by
  cases b <;> simp [atEnd]

theorem bind_some {α β : Type} {rd : Reader α} {b : List Byte} {f : α × List Byte → Option β} {y : β} :
    (rd b >>= f) = some y ↔ ∃ x rest, rd b = some (x, rest) ∧ f (x, rest) = some y := by
  simp [Option.bind_eq_some_iff]

theorem rdTriple_some {α : Type} {rd : Reader α} {wr : α → List Byte}
    (h : ∀ {b rest : List Byte} {x : α}, rd b = some (x, rest) ↔ b = wr x ++ rest) {b rest : List Byte}
    {c : PerChannel α} : rdTriple rd b = some (c, rest) ↔ b = wrTriple wr c ++ rest := by
  refine ⟨fun hb => ?_, fun hb => by rw [hb]; exact rdTriple_wrTriple (fun _ _ => h.2 rfl) c rest⟩
  simp only [rdTriple, bind_some, h] at hb
  obtain ⟨_, _, rfl, _, _, rfl, _, _, rfl, he⟩ := hb
  cases he
  simp [wrTriple]

theorem rdFrameRef_some {b rest : List Byte} {x : FrameRef} :
    rdFrameRef b = some (x, rest) ↔ b = wrFrameRef x ++ rest := by
  refine ⟨fun h => ?_, fun h => by rw [h, rdFrameRef_wrFrameRef]⟩
  simp only [rdFrameRef, bind_some, rd8_some, rd32_some] at h
  obtain ⟨_, _, rfl, _, _, rfl, he⟩ := h
  cases he
  simp [wrFrameRef]

theorem rdLocation_some {b rest : List Byte} {x : LocationOperand} :
    rdLocation b = some (x, rest) ↔ b = wrLocation x ++ rest := by
  refine ⟨fun h => ?_, fun h => by rw [h, rdLocation_wrLocation]⟩
  simp only [rdLocation, bind_some, rd8_some, rd16_some] at h
  obtain ⟨_, _, rfl, _, _, rfl, he⟩ := h
  cases he
  simp [wrLocation]

theorem rdChannelRule_some {b rest : List Byte} {x : ChannelRuleOperands} :
    rdChannelRule b = some (x, rest) ↔ b = wrChannelRule x ++ rest := by
  refine ⟨fun h => ?_, fun h => by rw [h, rdChannelRule_wrChannelRule]⟩
  simp only [rdChannelRule, bind_some, rd8_some, rd16_some] at h
  obtain ⟨_, _, rfl, _, _, rfl, _, _, rfl, _, _, rfl, he⟩ := h
  cases he
  simp [wrChannelRule]

theorem rdEnrol_some {b rest : List Byte} {x : EnrolOperands} :
    rdEnrol b = some (x, rest) ↔ b = wrEnrol x ++ rest := by
  refine ⟨fun h => ?_, fun h => by rw [h, rdEnrol_wrEnrol]⟩
  simp only [rdEnrol, bind_some, rd8_some, rd16_some, rd32_some, rdTriple_some rd16_some, rdLocation_some] at h
  obtain ⟨_, _, rfl, _, _, rfl, _, _, rfl, _, _, rfl, _, _, rfl, _, _, rfl, _, _, rfl, _, _, rfl, _, _, rfl, _, _, rfl, _, _, rfl, he⟩ := h
  cases he
  simp [wrEnrol]

theorem rdCondition_some {b rest : List Byte} {x : ConditionOperands} :
    rdCondition b = some (x, rest) ↔ b = wrCondition x ++ rest := by
  refine ⟨fun h => ?_, fun h => by rw [h, rdCondition_wrCondition]⟩
  simp only [rdCondition, bind_some, rd8_some, rd32_some, rdTriple_some rd16_some] at h
  obtain ⟨_, _, rfl, _, _, rfl, _, _, rfl, _, _, rfl, he⟩ := h
  cases he
  simp [wrCondition]

theorem rdTransport_some {b rest : List Byte} {x : TransportOperands} :
    rdTransport b = some (x, rest) ↔ b = wrTransport x ++ rest := by
  refine ⟨fun h => ?_, fun h => by rw [h, rdTransport_wrTransport]⟩
  simp only [rdTransport, bind_some, rd8_some, rd16_some] at h
  obtain ⟨_, _, rfl, _, _, rfl, _, _, rfl, _, _, rfl, _, _, rfl, _, _, rfl, _, _, rfl, he⟩ := h
  cases he
  simp [wrTransport]

theorem rdAddDefect_some {b rest : List Byte} {x : AddDefectOperands} :
    rdAddDefect b = some (x, rest) ↔ b = wrAddDefect x ++ rest := by
  refine ⟨fun h => ?_, fun h => by rw [h, rdAddDefect_wrAddDefect]⟩
  simp only [rdAddDefect, bind_some, rd8_some, rd16_some, rdFrameRef_some] at h
  obtain ⟨_, _, rfl, _, _, rfl, _, _, rfl, _, _, rfl, _, _, rfl, he⟩ := h
  cases he
  simp [wrAddDefect]

theorem rdListDefects_some {b rest : List Byte} {x : ListDefectsOperands} :
    rdListDefects b = some (x, rest) ↔ b = wrListDefects x ++ rest := by
  refine ⟨fun h => ?_, fun h => by rw [h, rdListDefects_wrListDefects]⟩
  simp only [rdListDefects, bind_some, rd8_some, rd16_some] at h
  obtain ⟨_, _, rfl, _, _, rfl, _, _, rfl, _, _, rfl, _, _, rfl, he⟩ := h
  cases he
  simp [wrListDefects]

theorem rdRule_some {b rest : List Byte} {x : RuleOperands} :
    rdRule b = some (x, rest) ↔ b = wrRule x ++ rest := by
  refine ⟨fun h => ?_, fun h => by rw [h, rdRule_wrRule]⟩
  simp only [rdRule, bind_some, rd8_some, rd16_some, rd32_some, rdTriple_some rdChannelRule_some] at h
  obtain ⟨_, _, rfl, _, _, rfl, _, _, rfl, _, _, rfl, _, _, rfl, _, _, rfl, _, _, rfl, _, _, rfl, _, _, rfl, he⟩ := h
  cases he
  simp [wrRule]

/-- A body that is read as a request of a kind is the body of that request (R175). -/
theorem parseBody_some {k : Kind} {b : List Byte} {q : Request} (h : parseBody k b = some q) :
    q.kind = k ∧ q.body = b := by
  cases k
  case loadReel =>
    simp only [parseBody, bind_some, rd32_some] at h
    obtain ⟨_, b, rfl, h⟩ := h
    cases b with
    | nil => cases h; simp [Request.kind, Request.body]
    | cons x t =>
      simp only [bind_some, rd16_some, atEnd_some] at h
      obtain ⟨_, _, e, rfl, rfl⟩ := h
      simp [Request.kind, Request.body, e]
  all_goals
    simp only [parseBody, bind_some, rd8_some, rd16_some, rd32_some, rdTriple_some rd16_some, rdFrameRef_some,
      rdEnrol_some, rdCondition_some, rdTransport_some, rdAddDefect_some, rdListDefects_some, rdRule_some,
      atEnd_some] at h
    repeat
      first
        | (obtain ⟨rfl, rfl⟩ := h; simp [Request.kind, Request.body])
        | obtain ⟨_, _, rfl, h⟩ := h

/-- A body of a length that the catalogue does not give for the kind carries no request (R175). -/
theorem parseBody_none {k : Kind} {b : List Byte} (h : ∀ q : Request, q.kind = k → q.body.length ≠ b.length) :
    parseBody k b = none := by
  cases hp : parseBody k b with
  | none => rfl
  | some q => exact absurd (congrArg List.length (parseBody_some hp).2) (h q (parseBody_some hp).1)

/-- No body of the catalogue is longer than 33 bytes (11.7). -/
theorem body_length (q : Request) : q.body.length ≤ 33 := by
  cases q
  case loadReel reelId head => cases head <;> simp [Request.body, be16, be32]
  all_goals
    simp [Request.body, be16, be32, wrTriple, wrFrameRef, wrLocation, wrChannelRule, wrEnrol, wrCondition,
      wrTransport, wrAddDefect, wrListDefects, wrRule]

end Sys2Proof

namespace Sys2Proof.Machine

/-! ### Frames (R172, R184, R185) -/

theorem be16_length (x : BitVec 16) : (be16 x).length = 2 := rfl

/-- A whole frame whose check agrees is good, with the tag, kind and body it carries. -/
theorem frameProgress_whole (tag kind : Byte) (body : List Byte) (h : body.length ≤ 240) :
    frameProgress (requestData tag kind body ++ be16 (checkOf (requestData tag kind body))) = .good tag kind body := by
  have hl : (BitVec.ofNat 8 body.length).toNat = body.length := by simp; omega
  simp [frameProgress, requestData, hl, be16_length, show ¬ 240 < body.length by omega]

/-- Whatever two characters stand in the check's place, a frame is good only when they are its check. -/
theorem frameProgress_check (tag kind : Byte) (body : List Byte) (h : body.length ≤ 240) (x y : Byte) :
    frameProgress (requestData tag kind body ++ [x, y])
      = if be16 (checkOf (requestData tag kind body)) = [x, y] then .good tag kind body else .mismatch := by
  have hl : (BitVec.ofNat 8 body.length).toNat = body.length := by simp; omega
  simp [frameProgress, requestData, hl, show ¬ 240 < body.length by omega]
  rfl

/-- A frame that still misses characters is in progress. -/
theorem frameProgress_part (tag kind : Byte) (body : List Byte) (h : body.length ≤ 240) (n : Nat)
    (hn : n < body.length + 5) (c : List Byte) (hc : c.length = 2) :
    frameProgress ((requestData tag kind body ++ c).take n) = .more := by
  have hl : (BitVec.ofNat 8 body.length).toNat = body.length := by simp; omega
  match n with
  | 0 | 1 | 2 => simp [frameProgress, requestData]
  | n + 3 =>
    simp only [requestData, List.cons_append, List.take_succ_cons, frameProgress, hl]
    rw [if_neg (by omega), if_pos]
    simp [hc]
    omega

end Sys2Proof.Machine
end

