-- ==== Sys2Proof/Laws/Link.lean ====
section
/-! SUPPORT. The host link: what dispatch, offering and serving can do, and what a request does when it is taken at
once. -/

namespace Sys2Proof.Machine

/-! ### Dispatch (R174, R175) -/

/-- All that dispatch changes: the device becomes what the owner makes of it or stays, and at most one reply joins. -/
theorem State.dispatch_cases (q : HostRequest) (s : State) :
    ∃ d replies, s.dispatch q = { s with dev := d, link.replies := replies }
      ∧ (d = s.dev ∨ ∃ r, d = (carryOut s.link r s.dev).1)
      ∧ (replies = s.link.replies ∨ ∃ r, replies = s.link.replies ++ [r]) := by
  simp only [State.dispatch, State.perform, State.reply]
  repeat' split
  all_goals
    first
      | exact ⟨_, _, rfl, .inl rfl, .inl rfl⟩
      | exact ⟨_, _, rfl, .inl rfl, .inr ⟨_, rfl⟩⟩
      | exact ⟨_, _, rfl, .inr ⟨_, rfl⟩, .inl rfl⟩
      | exact ⟨_, _, rfl, .inr ⟨_, rfl⟩, .inr ⟨_, rfl⟩⟩

/-- An addressed request of the catalogue is carried out by its owner and answered. -/
theorem State.dispatch_addressed (tag : Byte) (r : Request) (s : State) :
    s.dispatch { tag, kind := r.kind.code, body := r.body, broadcast := false }
      = s.answered tag r.kind (carryOut s.link r s.dev).1 (carryOut s.link r s.dev).2.status
          (carryOut s.link r s.dev).2.body := by
  simp [State.dispatch, State.perform, State.reply, State.answered, parseBody_body]

/-- A broadcast request of a kind that may be broadcast takes its effect and is not answered (R175). -/
theorem State.dispatch_broadcast (tag : Byte) (r : Request) (s : State) (h : broadcasts r.kind = true) :
    s.dispatch { tag, kind := r.kind.code, body := r.body, broadcast := true }
      = { s with dev := (carryOut s.link r s.dev).1 } := by
  simp [State.dispatch, State.perform, State.reply, parseBody_body, h]

/-- Any other broadcast request is dropped (R175). -/
theorem State.dispatch_dropped (tag : Byte) (r : Request) (s : State) (h : broadcasts r.kind = false) :
    s.dispatch { tag, kind := r.kind.code, body := r.body, broadcast := true } = s := by
  simp [State.dispatch, h]

/-- A kind that the catalogue does not list is answered UNKNOWN_KIND, when addressed (R175). -/
theorem State.dispatch_unknown (q : HostRequest) (s : State) (h : Kind.ofCode q.kind = none) :
    s.dispatch q = s.reply q ⟨.unknownKind, []⟩ := by
  simp [State.dispatch, h]

/-- A body of a length that the catalogue does not give is answered BAD_LENGTH, when addressed (R175). -/
theorem State.dispatch_badLength (tag : Byte) (k : Kind) (body : List Byte) (broadcast : Bool) (s : State)
    (h : ∀ q : Request, q.kind = k → q.body.length ≠ body.length) :
    s.dispatch { tag, kind := k.code, body, broadcast }
      = s.reply { tag, kind := k.code, body, broadcast } ⟨.badLength, []⟩ := by
  cases broadcast <;> simp [State.dispatch, State.reply, parseBody_none h]

/-! ### The end of a reply, field by field, and the request FIFO (R173, R176, R177) -/

@[simp] theorem HostLink.replyEnded_replies (b : Bool) (h : HostLink) : (h.replyEnded b).replies = h.replies.tail := rfl
@[simp] theorem HostLink.replyEnded_fifo (b : Bool) (h : HostLink) : (h.replyEnded b).fifo = h.fifo := rfl
@[simp] theorem HostLink.replyEnded_sending (b : Bool) (h : HostLink) : (h.replyEnded b).sending = none := rfl
@[simp] theorem HostLink.replyEnded_parser (b : Bool) (h : HostLink) : (h.replyEnded b).parser = h.parser := rfl
@[simp] theorem HostLink.replyEnded_lineLow (b : Bool) (h : HostLink) : (h.replyEnded b).lineLow = h.lineLow := rfl
@[simp] theorem HostLink.replyEnded_overrunInReply (b : Bool) (h : HostLink) :
    (h.replyEnded b).overrunInReply = false := rfl
@[simp] theorem HostLink.replyEnded_lost (b : Bool) (h : HostLink) :
    (h.replyEnded b).lost = if b then h.overrunInReply else h.lost := rfl

/-- A request offered to the FIFO waits at its tail, or is dropped with the overrun counted and the lost flag set. -/
theorem State.offer_cases (q : HostRequest) (s : State) :
    (s.link.fifo.length < 4 ∧ s.offer q = { s with link.fifo := s.link.fifo ++ [q] })
    ∨ (4 ≤ s.link.fifo.length ∧ s.offer q = { s with
        dev := s.dev.count .overruns, link.lost := true, link.overrunInReply := s.link.sending.isSome }) := by
  by_cases h : s.link.fifo.length < 4
  · exact .inl ⟨h, by simp [State.offer, h]⟩
  · exact .inr ⟨by omega, by simp [State.offer, h]⟩

/-! ### Serving (R174) -/

/-- Nothing is taken with no request waiting, or with the reply queue full. -/
theorem State.serve_idle (s : State) (h : s.link.fifo = [] ∨ 4 ≤ s.link.replies.length) : s.serve = s := by
  simp only [State.serve]
  cases hn : s.link.fifo.length with
  | zero => rfl
  | succ n =>
    simp only [State.serveUpTo]
    split
    · rfl
    · rw [if_neg]
      rcases h with h | h
      · simp_all
      · omega

/-- The oldest waiting request is taken, and then those behind it. -/
theorem State.serve_cons {q : HostRequest} {rest : List HostRequest} {s : State} (hq : s.link.fifo = q :: rest)
    (hr : s.link.replies.length < 4) : s.serve = (({ s with link.fifo := rest } : State).dispatch q).serve := by
  obtain ⟨d, replies, he, -, -⟩ := State.dispatch_cases q ({ s with link.fifo := rest } : State)
  simp only [State.serve]
  rw [he, hq, List.length_cons, State.serveUpTo]
  simp only [hq, if_pos hr, he]

/-- What holds before serving and is kept by each taking holds after it. -/
theorem State.serveUpTo_induct {P : State → Prop}
    (take : ∀ q rest s, s.link.fifo = q :: rest → s.link.replies.length < 4 → P s →
      P (({ s with link.fifo := rest } : State).dispatch q)) :
    ∀ n s, P s → P (s.serveUpTo n) := by
  intro n
  induction n with
  | zero => intro s h; exact h
  | succ n ih =>
    intro s h
    simp only [State.serveUpTo]
    split
    · exact h
    · split
      · exact ih _ (take _ _ _ ‹_› ‹_› h)
      · exact h

theorem State.serve_induct {P : State → Prop}
    (take : ∀ q rest s, s.link.fifo = q :: rest → s.link.replies.length < 4 → P s →
      P (({ s with link.fifo := rest } : State).dispatch q)) (s : State) (h : P s) : P s.serve :=
  State.serveUpTo_induct take _ s h

/-- After serving, a request waits only while the reply queue is full. -/
theorem State.serveUpTo_waits :
    ∀ n (s : State), s.link.fifo.length ≤ n →
      (s.serveUpTo n).link.fifo = [] ∨ 4 ≤ (s.serveUpTo n).link.replies.length := by
  intro n
  induction n with
  | zero => intro s h; left; simpa [State.serveUpTo] using h
  | succ n ih =>
    intro s h
    simp only [State.serveUpTo]
    split
    · left; assumption
    · rename_i q rest hq
      split
      · refine ih _ ?_
        obtain ⟨d, replies, he, -, -⟩ := State.dispatch_cases q ({ s with link.fifo := rest } : State)
        rw [he]
        simp only [hq, List.length_cons] at h
        simpa using h
      · right; omega

theorem State.serve_waits (s : State) : s.serve.link.fifo = [] ∨ 4 ≤ s.serve.link.replies.length :=
  State.serveUpTo_waits _ s (Nat.le_refl _)

/-- A request that arrives when the link is ready is dispatched at once. -/
theorem State.submit_ready (via : Envelope) (kind : Byte) (body : List Byte) (s : State) (h : s.Ready) :
    s.submit via kind body = s.dispatch { tag := via.tag, kind, body, broadcast := via.broadcast } := by
  obtain ⟨hf, hr⟩ := h
  obtain ⟨pending, ⟨unitAddress, rate, parser, lineLow, fifo, replies, lost, sending, overrunInReply⟩, dev⟩ := s
  subst hf
  simp only at hr
  simp [State.submit, State.offer, State.serve, State.serveUpTo, hr]

/-- An addressed request of the catalogue that arrives when the link is ready is carried out and answered. -/
theorem State.request_ready (tag : Byte) (q : Request) (s : State) (h : s.Ready) :
    s.request (addressed tag) q
      = s.answered tag q.kind (carryOut s.link q s.dev).1 (carryOut s.link q s.dev).2.status
          (carryOut s.link q s.dev).2.body := by
  simp only [State.request, State.submit_ready _ _ _ _ h, addressed]
  exact State.dispatch_addressed tag q s

/-- What a request command gives from a ready link is what its owner answers. -/
theorem State.gives_of (q : Request) {s : State} {c : Envelope → Instr} {k : Kind} {d : Device} {status : Status}
    {body : List Byte} (hc : ∀ via, exec (c via) s = .next (s.request via q)) (hk : q.kind = k)
    (h : carryOut s.link q s.dev = (d, ⟨status, body⟩)) : s.Gives c k d status body := by
  intro tag ready
  subst hk
  simp [hc, State.request_ready tag q s ready, h]

end Sys2Proof.Machine
end

