-- ==== Sys2Proof/Laws/Ops.lean ====
section
/-! SUPPORT. One lemma for each shared operation that says once what it can do. -/

namespace Sys2Proof.Machine

/-! ### Requests -/

/-- A command of the catalogue hands its request to the host link. -/
theorem exec_request {c : Instr} {via : Envelope} {q : Request} (h : asRequest c = some (via, q)) (s : State) :
    exec c s = .next (s.request via q) := by
  cases c <;> simp only [asRequest, reduceCtorEq, Option.some.injEq, Prod.mk.injEq] at h <;> obtain ⟨rfl, rfl⟩ := h <;> rfl

/-! ### Saturating values -/

theorem bump8_eq_min (n : Nat) : bump8 n = min 255 (n + 1) := by simp only [bump8]; split <;> omega

theorem bump16_eq_min (n : Nat) : bump16 n = min 65535 (n + 1) := by simp only [bump16]; split <;> omega

theorem difference_eq (f t : Nat) : difference f t = max f t - min f t := by simp only [difference]; omega

theorem clampNat_in_range (lo hi n : Nat) (h : lo ≤ hi) : lo ≤ clampNat lo hi n ∧ clampNat lo hi n ≤ hi := by
  simp only [clampNat]; omega

theorem clampInt_in_range (lo hi n : Int) (h : lo ≤ hi) : lo ≤ clampInt lo hi n ∧ clampInt lo hi n ≤ hi := by
  simp only [clampInt]; omega

/-! ### The things a request names (R1, R21, R103, R140) -/

theorem withReel_names {d : Device} {id : BitVec 32} {r : Reel} (h : d.Names id r) (f : Reel → Device × Answer) :
    withReel id d f = f r := by
  rw [withReel, if_neg h.1, h.2]

theorem withDefect_names {d : Device} {id : BitVec 16} {r : Defect} (h : d.NamesDefect id r)
    (f : Defect → Device × Answer) : withDefect id d f = f r := by
  rw [withDefect, if_neg (by simp [Option.isSome_iff_ne_none.mp h.1]), if_neg (Nat.not_lt.mpr h.2.1), h.2.2]

theorem withShot_names {d : Device} {index : BitVec 16} {x : Shot} (h : d.NamesShot index x)
    (f : Shot → Device × Answer) : withShot index d f = f x := by
  rw [withShot, if_neg (by simp [Option.isSome_iff_ne_none.mp h.1]), if_neg (Nat.not_lt.mpr h.2.1), h.2.2]

theorem withFrame_ok {d : Device} {ref : FrameRef} {frame : Nat} (h : d.resolve ref = .ok frame)
    (f : Nat → Device × Answer) : withFrame ref d f = f frame := by
  simp [withFrame, h]

theorem withFrame_error {d : Device} {ref : FrameRef} {e : Status} (h : d.resolve ref = .error e)
    (f : Nat → Device × Answer) : withFrame ref d f = refuse e d := by
  simp [withFrame, h]

/-- A resolved reference lies in the LOADED reel (R81). -/
theorem Device.resolve_in_reel {d : Device} {ref : FrameRef} {frame : Nat} (h : d.resolve ref = .ok frame) :
    ∃ r t, d.loadedReel = some r ∧ d.pt = some t ∧ frame < r.length := by
  simp only [Device.resolve] at h
  split at h
  · rename_i r t hr ht
    refine ⟨r, t, hr, ht, ?_⟩
    split at h
    · split at h
      · injection h with h; omega
      · cases h
    · cases h
    · cases h
  · cases h

/-! ### Records by id (R1, R103) -/

theorem Device.findReel_id {d : Device} {id : Nat} {r : Reel} (h : d.findReel id = some r) : r.id = id := by
  simpa using List.find?_some h

theorem Device.findReel_mem {d : Device} {id : Nat} {r : Reel} (h : d.findReel id = some r) : r ∈ d.reels :=
  List.mem_of_find?_eq_some h

theorem Device.findDefect_id {d : Device} {id : Nat} {r : Defect} (h : d.findDefect id = some r) : r.id = id := by
  simpa using List.find?_some h

theorem Device.findDefect_mem {d : Device} {id : Nat} {r : Defect} (h : d.findDefect id = some r) : r ∈ d.dm.records :=
  List.mem_of_find?_eq_some h

theorem Device.loadedReel_state {d : Device} {r : Reel} (h : d.loadedReel = some r) : r.state = .loaded := by
  simpa using List.find?_some h

theorem Device.loadedReel_mem {d : Device} {r : Reel} (h : d.loadedReel = some r) : r ∈ d.reels :=
  List.mem_of_find?_eq_some h

/-- The lookups read the reels alone. -/
theorem Device.findReel_congr {d e : Device} (h : d.reels = e.reels) (id : Nat) : d.findReel id = e.findReel id := by
  simp only [Device.findReel, h]

theorem Device.loadedReel_congr {d e : Device} (h : d.reels = e.reels) : d.loadedReel = e.loadedReel := by
  simp only [Device.loadedReel, h]

/-- A change that keeps ids is seen by the lookup of the changed record. -/
theorem Device.findReel_setReel {d : Device} {id : Nat} {r : Reel} {f : Reel → Reel} (hf : ∀ x, (f x).id = x.id)
    (h : d.findReel id = some r) : (d.setReel id f).findReel id = some (f r) := by
  simp only [Device.findReel, Device.setReel] at *
  revert h
  generalize d.reels = l
  intro h
  induction l with
  | nil => simp at h
  | cons a l ih =>
    simp only [List.map_cons, List.find?_cons] at *
    by_cases ha : a.id = id
    · simp only [ha, if_true, hf, decide_true] at *
      exact congrArg _ (congrArg f (by simpa using h))
    · simp only [ha, if_false, decide_false] at *
      exact ih h

theorem Device.findDefect_setDefect {d : Device} {id : Nat} {r : Defect} {f : Defect → Defect}
    (hf : ∀ x, (f x).id = x.id) (h : d.findDefect id = some r) : (d.setDefect id f).findDefect id = some (f r) := by
  simp only [Device.findDefect, Device.setDefect] at *
  revert h
  generalize d.dm.records = l
  intro h
  induction l with
  | nil => simp at h
  | cons a l ih =>
    simp only [List.map_cons, List.find?_cons] at *
    by_cases ha : a.id = id
    · simp only [ha, if_true, hf, decide_true] at *
      exact congrArg _ (congrArg f (by simpa using h))
    · simp only [ha, if_false, decide_false] at *
      exact ih h

/-- A change that keeps ids keeps the list of ids. -/
theorem Device.setReel_ids (d : Device) (id : Nat) (f : Reel → Reel) (hf : ∀ x, (f x).id = x.id) :
    (d.setReel id f).reels.map (·.id) = d.reels.map (·.id) := by
  simp only [Device.setReel, List.map_map]
  refine List.map_congr_left fun r _ => ?_
  by_cases h : r.id = id <;> simp [Function.comp, h, hf]

/-! ### Slots and offers (R21, R27, R32) -/

theorem Device.slot_setSlot_same (d : Device) {n : Nat} (v : SlotState) (h : n < 256) : (d.setSlot n v).slot n = v := by
  simp [Device.slot, Device.setSlot, h]

theorem Device.slot_setSlot_other (d : Device) {n m : Nat} (v : SlotState) (h : m ≠ n) :
    (d.setSlot n v).slot m = d.slot m := by
  simp [Device.slot, Device.setSlot, h.symm]

theorem Device.usable_iff (d : Device) (r : Reel) (n : Nat) :
    d.usable r n = true ↔ (0 < r.deferred ∧ zoneOf n = .workroom) ∨ d.allowed r.cls (zoneOf n) = true := by
  simp [Device.usable]

/-- An offer changes nothing, or a held reel that may use the slot takes it. -/
theorem Device.offer_cases (n : Nat) (d : Device) :
    d.offer n = d ∨ ∃ id r, id ∈ d.vault.hold ∧ d.findReel id = some r ∧ d.usable r n = true ∧ d.offer n = d.giveSlot id n := by
  simp only [Device.offer]
  split
  · rename_i id h
    right
    have hu := List.find?_some h
    have hm := List.mem_of_find?_eq_some h
    split at hu
    · rename_i r hr
      exact ⟨id, r, hm, hr, hu, rfl⟩
    · cases hu
  · exact .inl rfl

/-! ### Values by name -/

theorem PerClass.get_set {α : Type} (c : PerClass α) (i j : DecayClass) (v : α) : (c.set i v).get j = if j = i then v else c.get j := by
  cases i <;> cases j <;> rfl

theorem PerZone.get_set {α : Type} (c : PerZone α) (i j : Zone) (v : α) : (c.set i v).get j = if j = i then v else c.get j := by
  cases i <;> cases j <;> rfl

theorem PerPriority.get_set {α : Type} (c : PerPriority α) (i j : Priority) (v : α) :
    (c.set i v).get j = if j = i then v else c.get j := by
  cases i <;> cases j <;> rfl

theorem PerKind.get_set {α : Type} (c : PerKind α) (i j : DefectKind) (v : α) : (c.set i v).get j = if j = i then v else c.get j := by
  cases i <;> cases j <;> rfl

theorem Device.station_setStation (d : Device) {n m : Nat} (v : Station) (h : n < 8) :
    (d.setStation n v).station m = if m = n then v else d.station m := by
  by_cases e : n = m
  · subst e; simp [Device.station, Device.setStation, h]
  · simp [Device.station, Device.setStation, e, Ne.symm e]

/-! ### Counters and notices (R160, R165) -/

/-- A count raises one counter, saturating: no counter falls, and none passes 65,535 by it. -/
theorem Counters.bump_le (c : Counters) (k : Counter) (h : ∀ n ∈ c.toList, n ≤ 65535) : ∀ n ∈ (c.bump k).toList, n ≤ 65535 := by
  have hb : ∀ n, bump16 n ≤ 65535 := fun n => by rw [bump16_eq_min]; omega
  simp only [Counters.toList, List.mem_cons, List.not_mem_nil, or_false, forall_eq_or_imp, forall_eq] at h ⊢
  cases k
  case refusal p => cases p <;> simp only [Counters.bump] <;> simp [h, hb]
  all_goals simp only [Counters.bump]; simp [h, hb]

/-- A posting keeps the kinds and subjects listed, or adds one pair that was not. -/
theorem NoticeList.post_cases (l : NoticeList) (now : SuiteTime) (kind : NoticeKind) (subject detail : Nat) :
    ((l.post now kind subject detail).notices.map (fun n => (n.kind, n.subject)) = l.notices.map fun n => (n.kind, n.subject))
    ∨ (l.notices.length < 32 ∧ (kind, subject) ∉ l.notices.map (fun n => (n.kind, n.subject))
      ∧ (l.post now kind subject detail).notices = l.notices ++ [{ kind, subject, first := now, repeats := 1, detail }]) := by
  simp only [NoticeList.post]
  split
  · left
    simp only [List.map_map]
    refine List.map_congr_left fun n _ => ?_
    by_cases h : n.is kind subject = true <;> simp [Function.comp, h]
  · rename_i h
    split
    · right
      refine ⟨‹_›, ?_, rfl⟩
      simp only [List.mem_map, Prod.mk.injEq, not_exists, not_and]
      intro n hn hk hs
      exact h (List.any_eq_true.mpr ⟨n, hn, by simp [Notice.is, hk, hs]⟩)
    · exact .inl rfl

theorem NoticeList.post_length (l : NoticeList) (now : SuiteTime) (kind : NoticeKind) (subject detail : Nat)
    (h : l.notices.length ≤ 32) : (l.post now kind subject detail).notices.length ≤ 32 := by
  simp only [NoticeList.post]
  repeat' split
  · simpa using h
  · simp; omega
  · exact h

/-! ### Findings and queues (R106 to R110, R122, R123) -/

/-- An enqueue is accepted at the tail or refused. -/
theorem Device.enqueue_cases (p : Priority) (r : Defect) (d : Device) :
    (d.accepts p = true ∧ d.enqueue p r = (d.appendEntry p ⟨r.id, r.kind⟩).setDefect r.id
      fun x => { x with state := .queued p, refused := false })
    ∨ (d.accepts p = false ∧ d.enqueue p r
      = ((d.setDefect r.id fun x => { x with refused := true }).count (.refusal p)).post .queueRefused p.code r.id) := by
  simp only [Device.enqueue]
  split
  · exact .inl ⟨‹_›, rfl⟩
  · rename_i h; exact .inr ⟨by simpa using h, rfl⟩

/-- The auto-queue test enqueues one FOUND record or does nothing. -/
theorem Device.autoQueue_cases (id : Nat) (d : Device) :
    d.autoQueue id = d ∨ ∃ r, d.findDefect id = some r ∧ r.state = .found
      ∧ d.autoQueue id = d.enqueue (severityPriority r.severity) r := by
  simp only [Device.autoQueue]
  split
  · rename_i r hr
    split
    · rename_i h; exact .inr ⟨r, hr, h.1, rfl⟩
    · exact .inl rfl
  · exact .inl rfl

/-- Recording a finding merges, extends, appends, or loses it to a full map. -/
theorem Device.record_cases (f : Finding) (d : Device) :
    (∃ r g, r ∈ d.dm.records ∧ (r.merges f = true ∧ g = (Defect.raise f)
        ∨ r.extendsTo f = true ∧ g = fun x => { x.raise f with extent := x.extent + 1 })
      ∧ d.record f = ((d.setDefect r.id g).autoQueue r.id, some r.id))
    ∨ (d.dm.records.length < 1024 ∧ ∃ r : Defect, r.id = d.dm.records.length ∧ r.state = .found ∧ r.extent = 1
      ∧ d.record f = (({ d with dm.records := d.dm.records ++ [r] } : Device).autoQueue r.id, some r.id))
    ∨ (1024 ≤ d.dm.records.length ∧ d.record f = ((d.count .mapOverflow).post .mapFull 0 f.frame, none)) := by
  simp only [Device.record]
  split
  · rename_i r hr
    exact .inl ⟨r, _, List.mem_of_find?_eq_some hr, .inl ⟨by simpa using List.find?_some hr, rfl⟩, rfl⟩
  · split
    · rename_i r hr
      split at hr
      · exact .inl ⟨r, _, List.mem_of_find?_eq_some hr, .inr ⟨by simpa using List.find?_some hr, rfl⟩, rfl⟩
      · cases hr
    · split
      · exact .inr (.inl ⟨‹_›, _, rfl, rfl, rfl, rfl⟩)
      · exact .inr (.inr ⟨by omega, rfl⟩)

/-- A finding is recorded or discarded (R106). -/
theorem Device.finding_cases (f : Finding) (d : Device) : d.finding f = d ∨ d.finding f = (d.record f).1 := by
  simp only [Device.finding]
  repeat' split
  all_goals first | exact .inl rfl | exact .inr rfl

/-! ### Capture (R88, R91) -/

/-- The tag given is the first from the counter on that no order holds, within the orders looked for. -/
theorem freeTag_cases (orders : List Order) (n : Nat) (t : Byte) :
    ∃ k ≤ n, freeTag orders n t = t + BitVec.ofNat 8 k ∧ (∀ j < k, ∃ o ∈ orders, o.tag = t + BitVec.ofNat 8 j)
      ∧ (k = n ∨ ∀ o ∈ orders, o.tag ≠ t + BitVec.ofNat 8 k) := by
  induction n generalizing t with
  | zero => exact ⟨0, Nat.le_refl _, by simp [freeTag], by simp, .inl rfl⟩
  | succ n ih =>
    simp only [freeTag]
    have step : ∀ j : Nat, t + 1 + BitVec.ofNat 8 j = t + BitVec.ofNat 8 (j + 1) := by
      intro j; rw [BitVec.ofNat_add, BitVec.add_assoc, BitVec.add_comm (BitVec.ofNat 8 j)]; rfl
    split
    · rename_i h
      obtain ⟨o, ho, ht⟩ := List.any_eq_true.mp h
      obtain ⟨k, hk, he, hj, hl⟩ := ih (t + 1)
      refine ⟨k + 1, by omega, by rw [he, step], ?_, ?_⟩
      · intro j hjk
        cases j with
        | zero => exact ⟨o, ho, by simpa using ht⟩
        | succ j => rw [← step]; exact hj j (by omega)
      · rcases hl with rfl | hl
        · exact .inl rfl
        · right; intro o ho; rw [← step]; exact hl o ho
    · rename_i h
      refine ⟨0, by omega, by simp, by simp, .inr ?_⟩
      intro o ho he
      exact h (List.any_eq_true.mpr ⟨o, ho, by simpa using he⟩)

/-- The gap count stays below 8 (R91). -/
theorem Device.raiseGaps_cases (d : Device) :
    (d.cu.gaps < 7 ∧ d.raiseGaps = { d with cu.gaps := d.cu.gaps + 1 })
    ∨ (7 ≤ d.cu.gaps ∧ d.raiseGaps = ({ d with cu.gaps := 0 } : Device).askEnd .pipeline) := by
  simp only [Device.raiseGaps]
  split
  · exact .inr ⟨by omega, rfl⟩
  · exact .inl ⟨by omega, rfl⟩

/-! ### The pipeline's sender (R92, R179, R184, R185) -/

theorem Order.frameOf_eq (o : Order) : o.frameOf = captureOrderChars o := by
  simp [Order.frameOf, captureOrderChars, frameChars, requestData, Order.body, gradeBytes, timeBytes, PerChannel.toList,
    u16, u32, i16, be16, be32]

/-- An order handed to the sender is begun, or waits behind the frame in progress. -/
theorem PipelinePort.hand_cases (o : Order) (p : PipelinePort) :
    (p.sending.isSome ∧ p.hand o = { p with waiting := p.waiting ++ [o] })
    ∨ (p.sending = none ∧ p.waiting = [] ∧ p.hand o = { p with sending := some (captureOrderChars o) })
    ∨ (p.sending = none ∧ ∃ first rest, p.waiting = first :: rest
      ∧ p.hand o = { p with sending := some (captureOrderChars first), waiting := rest ++ [o] }) := by
  obtain ⟨parser, low, sending, waiting⟩ := p
  cases sending with
  | some frame => exact .inl ⟨rfl, rfl⟩
  | none =>
    cases waiting with
    | nil => exact .inr (.inl ⟨rfl, rfl, by rw [← Order.frameOf_eq]; rfl⟩)
    | cons first rest => exact .inr (.inr ⟨rfl, first, rest, rfl, by rw [← Order.frameOf_eq]; rfl⟩)

/-- The end of a frame begins the oldest waiting order's frame, if one waits. -/
theorem PipelinePort.sent_cases (p : PipelinePort) :
    (p.sending = none ∧ p.sent = p)
    ∨ (p.sending.isSome ∧ p.waiting = [] ∧ p.sent = { p with sending := none })
    ∨ (p.sending.isSome ∧ ∃ o rest, p.waiting = o :: rest
      ∧ p.sent = { p with sending := some (captureOrderChars o), waiting := rest }) := by
  obtain ⟨parser, low, sending, waiting⟩ := p
  cases sending with
  | none => exact .inl ⟨rfl, rfl⟩
  | some frame =>
    cases waiting with
    | nil => exact .inr (.inl ⟨rfl, rfl, rfl⟩)
    | cons o rest => exact .inr (.inr ⟨rfl, o, rest, rfl, by rw [← Order.frameOf_eq]; rfl⟩)

/-! ### Fields without a stated width (R183; log 11) -/

@[simp] theorem beBytes_length (width n : Nat) : (beBytes width n).length = width := by simp [beBytes]

/-- Byte i from the end holds the bits of weight 256^i. -/
theorem beBytes_getElem? (width n i : Nat) (h : i < width) :
    (beBytes width n)[width - 1 - i]? = some (BitVec.ofNat 8 (n / 256 ^ i)) := by
  simp only [beBytes, List.getElem?_map, List.getElem?_range (show width - 1 - i < width by omega), Option.map_some]
  rw [show width - 1 - (width - 1 - i) = i by omega]

theorem fieldWidth_pos (f : Config.UnsizedField) : 0 < fieldWidth f := by
  have : 0 < leastWidth f := by cases f <;> decide
  simp only [fieldWidth]; omega

@[simp] theorem unsized_length (f : Config.UnsizedField) (x : Option Nat) : (unsized f x).length = fieldWidth f := by
  cases x with
  | some n => simp [unsized]
  | none => simp only [unsized]; split <;> simp

/-! ### Ends of a pass (R56, R57) -/

/-- A request to end the pass is noted, carried out at once in RELAXING, or does nothing. -/
theorem Device.askEnd_cases (cause : PendingEnd) (d : Device) :
    d.askEnd cause = d
    ∨ ((d.tc.state = .running ∨ d.tc.state = .winding ∨ d.tc.state = .limiting) ∧ d.tc.pendingEnd = none
      ∧ d.askEnd cause = { d with tc.pendingEnd := some cause })
    ∨ (d.tc.state = .relaxing ∧ d.askEnd cause = d.endRelaxing cause) := by
  simp only [Device.askEnd]
  split
  all_goals first
    | exact .inl rfl
    | exact .inr (.inr ⟨‹_›, rfl⟩)
    | (split
       · exact .inr (.inl ⟨by simp [*], ‹_›, rfl⟩)
       · exact .inl rfl)

/-- The effective limit does not read the tensions. -/
theorem Device.limit_stored (d : Device) (f t : Nat) :
    ({ d with tc.feed := f, tc.takeUp := t } : Device).limit = d.limit := rfl

/-- A boundary ends the leg it ends, and then the pass or not. -/
theorem Device.boundary_cases (handed : Option Nat) (d : Device) :
    d.boundary handed = { d with tc := d.tc.legEnd d.head }
    ∨ ∃ cause, d.tc.pass.isSome ∧ d.boundary handed
        = ({ d with tc := d.tc.legEnd d.head } : Device).endPass cause .stopped := by
  have hp : (d.tc.legEnd d.head).pass = d.tc.pass := by
    simp only [Transport.legEnd, Transport.startRunning]
    repeat' split
    all_goals rfl
  simp only [Device.boundary]
  split
  · exact .inl rfl
  · rename_i p hs
    have hs' : d.tc.pass = some p := by rw [← hp]; exact hs
    repeat' split
    · exact .inr ⟨_, by simp [hs'], rfl⟩
    · exact .inr ⟨_, by simp [hs'], rfl⟩
    · exact .inl rfl

end Sys2Proof.Machine
end

