-- ==== Sys2Proof/Laws/Step.lean ====
section
/-! SUPPORT. What a whole step can do to the device: a property of the device that every owner's answer and every
event's effect keeps is kept by every command, however it reaches the part. -/

namespace Sys2Proof.Machine

/-- A property of the device that nothing the part does can break, block by block, but for the run counter's tick and a
full reset, which `Kept.exec` asks for where the command is one. -/
structure Kept (P : Device → Prop) : Prop where
  answer : ∀ h q d, P d → P (carryOut h q d).1
  count : ∀ k d, P d → P (d.count k)
  micro : ∀ d : Device, P d → P { d with time := d.time.micro }
  sample : ∀ f t d, P d → P (d.sample f t)
  filmRises : ∀ d, P d → P d.filmRises
  filmFalls : ∀ d, P d → P d.filmFalls
  edge : ∀ p d, P d → P (d.edge p)
  acclimatized : ∀ id d, P d → P (d.acclimatized id)
  reportExpires : ∀ tag d, P d → P (d.reportExpires tag)
  threadingExpires : ∀ d, P d → P d.threadingExpires
  relaxExpires : ∀ d, P d → P d.relaxExpires
  strainExpires : ∀ d, P d → P d.strainExpires
  slipExpires : ∀ d, P d → P d.slipExpires
  orderSent : ∀ d, P d → P d.orderSent
  report : ∀ r d, P d → P (d.report r)
  port : ∀ (d : Device) parser low, P d → P { d with pipe.parser := parser, pipe.lineLow := low }

variable {P : Device → Prop}

theorem Kept.dispatch (k : Kept P) (q : HostRequest) (s : State) (h : P s.dev) : P (s.dispatch q).dev := by
  obtain ⟨d, replies, he, hd, -⟩ := State.dispatch_cases q s
  rw [he]
  obtain rfl | ⟨r, rfl⟩ := hd
  · exact h
  · exact k.answer _ _ _ h

theorem Kept.serve (k : Kept P) (s : State) (h : P s.dev) : P s.serve.dev :=
  State.serve_induct (P := fun s => P s.dev) (fun q _ _ _ _ h => k.dispatch q _ h) s h

theorem Kept.offer (k : Kept P) (q : HostRequest) (s : State) (h : P s.dev) : P (s.offer q).dev := by
  simp only [State.offer]
  split
  · exact h
  · exact k.count _ _ h

theorem Kept.submit (k : Kept P) (via : Envelope) (kind : Byte) (body : List Byte) (s : State) (h : P s.dev) :
    P (s.submit via kind body).dev := k.serve _ (k.offer _ _ h)

theorem Kept.hostChar (k : Kept P) (c : LineChar) (s : State) (h : P s.dev) : P (s.hostChar c).dev := by
  simp only [State.hostChar, State.hostData]
  repeat' split
  all_goals first | exact h | exact k.count _ _ h | exact k.serve _ (k.offer _ _ (k.count _ _ h))

theorem Kept.hostChars (k : Kept P) (chars : List LineChar) (s : State) (h : P s.dev) : P (s.hostChars chars).dev := by
  induction chars generalizing s with
  | nil => exact h
  | cons c chars ih => exact ih _ (k.hostChar c s h)

theorem Kept.hostDiscard (k : Kept P) (c : Counter) (s : State) (h : P s.dev) : P (s.hostDiscard c).dev := by
  simp only [State.hostDiscard]
  split
  · exact h
  · exact k.count _ _ h

theorem Kept.hostCharError (k : Kept P) (s : State) (h : P s.dev) : P s.hostCharError.dev := by
  simp only [State.hostCharError]
  split
  · exact k.hostDiscard _ _ h
  · exact h

theorem Kept.startReply (s : State) (h : P s.dev) : P s.startReply.dev := by
  simp only [State.startReply]
  repeat' split
  all_goals exact h

theorem Kept.completeReply (k : Kept P) (s : State) (h : P s.dev) : P s.completeReply.dev := by
  simp only [State.completeReply]
  split
  · exact h
  · exact k.serve _ h

theorem Kept.collide (k : Kept P) (n : Nat) (s : State) (h : P s.dev) : P (s.collide n).dev := by
  simp only [State.collide]
  repeat' split
  all_goals first | exact h | exact k.serve _ (k.count _ _ h)

theorem Kept.parser (k : Kept P) (d : Device) (p : Parser) (h : P d) : P { d with pipe.parser := p } :=
  k.port d p d.pipe.lineLow h

theorem Kept.pipeDiscard (k : Kept P) (d : Device) (h : P d) : P d.pipeDiscard := by
  simp only [Device.pipeDiscard]
  split
  · exact h
  · exact k.count _ _ (k.parser _ _ h)

theorem Kept.pipeChar (k : Kept P) (c : LineChar) (d : Device) (h : P d) : P (d.pipeChar c) := by
  simp only [Device.pipeChar, Device.pipeData, Device.pipeFrame]
  repeat' split
  all_goals
    first
      | exact h
      | exact k.parser _ _ h
      | exact k.pipeDiscard _ h
      | exact k.count _ _ (k.parser _ _ h)
      | exact k.report _ _ (k.count _ _ (k.parser _ _ h))

theorem Kept.pipeChars (k : Kept P) (chars : List LineChar) (d : Device) (h : P d) : P (d.pipeChars chars) := by
  induction chars generalizing d with
  | nil => exact h
  | cons c chars ih => exact ih _ (k.pipeChar c d h)

theorem Kept.pipeCharError (k : Kept P) (d : Device) (h : P d) : P d.pipeCharError := by
  simp only [Device.pipeCharError]
  split
  · exact h
  · exact k.pipeDiscard _ h

/-- A kept property of the device is kept by every command. -/
theorem Kept.exec (k : Kept P) (c : Instr) (s t : State) (milli : c = .runCounterTick → ∀ d, P d → P d.milli)
    (reset : ∀ address rate, c = .fullReset address rate → ∀ film low draws,
      P { Device.reset with tc.filmPresent := film, pipe.lineLow := low, freeDraws := draws })
    (he : exec c s = .next t) (h : P s.dev) : P t.dev := by
  cases c <;> injection he with he <;> subst he
  case fullReset => exact reset _ _ rfl _ _ _
  case runCounterTick => exact milli rfl _ h
  case suiteClockTick => exact k.micro _ h
  case tensionSample => exact k.sample _ _ _ h
  case filmPresentRises => exact k.filmRises _ h
  case filmPresentFalls => exact k.filmFalls _ h
  case perforationEdge => exact k.edge _ _ h
  case acclimatizationExpiry => exact k.acclimatized _ _ h
  case reportDeadlineExpiry => exact k.reportExpires _ _ h
  case threadingTimerExpiry => exact k.threadingExpires _ h
  case relaxTimerExpiry => exact k.relaxExpires _ h
  case strainWarningPersistenceExpiry => exact k.strainExpires _ h
  case slipPersistenceExpiry => exact k.slipExpires _ h
  case requestFrame => exact k.hostChars _ _ h
  case hostCharacterError => exact k.hostCharError _ h
  case hostGapTimeout => exact k.hostDiscard _ _ h
  case hostBreak => exact k.hostCharError _ h
  case frameReport => exact k.pipeChars _ _ h
  case pipelineCharacterError => exact k.pipeCharError _ h
  case pipelineGapTimeout => exact k.pipeDiscard _ h
  case pipelineBreak => exact k.port _ _ _ (k.pipeCharError _ h)
  case captureOrderSent => exact k.orderSent _ h
  case replyStart => exact Kept.startReply _ h
  case replyComplete => exact k.completeReply _ h
  case collision => exact k.collide _ _ h
  case hostLineReturnsHigh => exact h
  case pipelineLineReturnsHigh => exact k.port _ _ _ h
  case addressCharacterOfOtherValue => exact k.hostChar _ _ h
  case pipelineAddressOfOtherValue => exact k.pipeChar _ _ h
  all_goals exact k.submit _ _ _ _ h

end Sys2Proof.Machine
end

