-- ==== Sys2Proof/Laws/Works.lean ====
section
/-! SUPPORT. The work of a session: what each operation over defects, queues, stations and undo records does to the
invariants of the defect map and of the repair work. -/

namespace Sys2Proof.Machine

/-! ### Tables by priority and by number -/

/-- A queue that is replaced changes the occupancy by the difference of its lengths. -/
theorem Repair.occupancy_queue (q : Repair) (p : Priority) (l : List Entry) :
    ({ q with queues := q.queues.set p l } : Repair).occupancy + (q.queues.get p).length = q.occupancy + l.length := by
  cases p <;> simp only [Repair.occupancy, PerPriority.set, PerPriority.get] <;> omega

/-- A station that is replaced changes the occupancy by the entries it held and holds. -/
theorem Repair.occupancy_station (q : Repair) {n : Nat} (hn : n < 8) (s : Station) :
    ({ q with stations := q.stations.setIfInBounds n s } : Repair).occupancy
        + (if q.stations[n].state.isWorking then 1 else 0)
      = q.occupancy + (if s.state.isWorking then 1 else 0) := by
  have h := List.countP_set (p := fun x : Station => x.state.isWorking) (a := s) (l := q.stations.toList) (i := n)
    (by simpa using hn)
  have hpos : (if q.stations[n].state.isWorking then 1 else 0) ≤ q.stations.toList.countP (·.state.isWorking) := by
    split
    · exact List.countP_pos_iff.mpr ⟨q.stations[n], by simp, ‹_›⟩
    · exact Nat.zero_le _
  simp only [Vector.getElem_toList] at h
  have hset : (q.stations.setIfInBounds n s).toList = q.stations.toList.set n s := by
    simp [Vector.toList_setIfInBounds]
  simp only [Repair.occupancy, hset]
  omega

theorem Device.station_eq (d : Device) {n : Nat} (hn : n < 8) : d.station n = d.rq.stations[n] := by
  simp [Device.station, hn]

/-- Dropping a defect's entry from a queue that holds each defect once leaves the other entries. -/
theorem mem_dropEntry {l : List Entry} (h : (l.map (·.defect)).Nodup) (id : Nat) (e : Entry) :
    e ∈ l.eraseP (fun x => decide (x.defect = id)) ↔ e ∈ l ∧ e.defect ≠ id := by
  induction l with
  | nil => simp
  | cons a l ih =>
    rw [List.map_cons, List.nodup_cons] at h
    by_cases ha : a.defect = id
    · have hout : ∀ x ∈ l, x.defect ≠ id := fun x hx hid => h.1 (List.mem_map.mpr ⟨x, hx, by rw [hid, ha]⟩)
      rw [List.eraseP_cons_of_pos (by simpa using ha)]
      constructor
      · exact fun he => ⟨List.mem_cons_of_mem _ he, hout e he⟩
      · rintro ⟨he, hid⟩
        rcases List.mem_cons.mp he with rfl | he
        · exact absurd ha hid
        · exact he
    · rw [List.eraseP_cons_of_neg (by simpa using ha), List.mem_cons, List.mem_cons, ih h.2]
      constructor
      · rintro (rfl | ⟨he, hid⟩)
        · exact ⟨.inl rfl, ha⟩
        · exact ⟨.inr he, hid⟩
      · rintro ⟨rfl | he, hid⟩
        · exact .inl rfl
        · exact .inr ⟨he, hid⟩

/-- A queue that is replaced by one that holds each defect once. -/
theorem PerPriority.once_set {t : PerPriority (List Entry)} (h : ∀ p, ((t.get p).map (·.defect)).Nodup) (p : Priority)
    {l : List Entry} (hl : (l.map (·.defect)).Nodup) (q : Priority) : (((t.set p l).get q).map (·.defect)).Nodup := by
  rw [PerPriority.get_set]
  split
  · exact hl
  · exact h q

theorem once_cons {l : List Entry} (h : (l.map (·.defect)).Nodup) {e : Entry} (he : ∀ x ∈ l, x.defect ≠ e.defect) :
    ((e :: l).map (·.defect)).Nodup := by
  rw [List.map_cons, List.nodup_cons]
  refine ⟨fun hin => ?_, h⟩
  obtain ⟨x, hx, hid⟩ := List.mem_map.mp hin
  exact he x hx hid

theorem once_append {l : List Entry} (h : (l.map (·.defect)).Nodup) {e : Entry} (he : ∀ x ∈ l, x.defect ≠ e.defect) :
    ((l ++ [e]).map (·.defect)).Nodup := by
  rw [List.map_append, List.map_singleton, List.nodup_append]
  refine ⟨h, List.nodup_singleton _, ?_⟩
  simp only [List.mem_map, List.mem_singleton, forall_exists_index, and_imp]
  rintro _ x hx rfl _ rfl
  exact he x hx

theorem once_dropEntry {l : List Entry} (h : (l.map (·.defect)).Nodup) (id : Nat) :
    ((l.eraseP (fun x => decide (x.defect = id))).map (·.defect)).Nodup := ((List.eraseP_sublist).map _).nodup h

/-! ### The map (R103) -/

variable {d d' : Device} {r x : Defect} {id : Nat} {f : Defect → Defect} {p : Priority} {e : Entry}

theorem DefectMap.Inv.unique {m : DefectMap} (h : m.Inv) {y : Defect} (hx : x ∈ m.records) (hy : y ∈ m.records)
    (he : x.id = y.id) : x = y := by
  obtain ⟨i, hi⟩ := List.mem_iff_getElem?.mp hx
  obtain ⟨j, hj⟩ := List.mem_iff_getElem?.mp hy
  rw [h.2 i x hi, h.2 j y hj] at he
  subst he
  exact Option.some.inj (hi.symm.trans hj)

theorem DefectMap.Inv.find (h : d.dm.Inv) (hr : r ∈ d.dm.records) : d.findDefect r.id = some r := by
  cases hf : d.findDefect r.id with
  | none => exact absurd (List.find?_eq_none.mp hf r hr) (by simp)
  | some y => rw [h.unique (Device.findDefect_mem hf) hr (Device.findDefect_id hf)]

/-- A change of records that keeps their ids keeps the map's invariant. -/
theorem DefectMap.Inv.map {m : DefectMap} (h : m.Inv) {g : Defect → Defect} (hg : ∀ x, (g x).id = x.id) :
    ({ m with records := m.records.map g } : DefectMap).Inv := by
  refine ⟨by simpa using h.1, fun i y hy => ?_⟩
  rw [List.getElem?_map, Option.map_eq_some_iff] at hy
  obtain ⟨x, hx, rfl⟩ := hy
  rw [hg, h.2 i x hx]

theorem DefectMap.Inv.setDefect (h : d.dm.Inv) (id : Nat) (hf : ∀ x, (f x).id = x.id) : (d.setDefect id f).dm.Inv :=
  h.map fun x => by split <;> simp [hf]

/-- A new record of the next id keeps the map's invariant while the map has room. -/
theorem DefectMap.Inv.append {m : DefectMap} (h : m.Inv) (hid : r.id = m.records.length)
    (hlen : m.records.length < 1024) :
    ({ m with records := m.records ++ [r] } : DefectMap).Inv := by
  refine ⟨by simp; omega, fun i y hy => ?_⟩
  rw [List.getElem?_append] at hy
  split at hy
  · exact h.2 i y hy
  · have : i - m.records.length = 0 := by
      rcases Nat.eq_zero_or_pos (i - m.records.length) with h0 | h0
      · exact h0
      · rw [List.getElem?_eq_none (by simp only [List.length_singleton]; omega)] at hy; cases hy
    simp only [this, List.getElem?_cons_zero, Option.some.injEq] at hy
    subst hy; omega

theorem Device.mem_setDefect (h : d.dm.Inv) (hr : r ∈ d.dm.records) :
    x ∈ (d.setDefect r.id f).dm.records ↔ (x ∈ d.dm.records ∧ x.id ≠ r.id) ∨ x = f r := by
  simp only [Device.setDefect, List.mem_map]
  constructor
  · rintro ⟨y, hy, rfl⟩
    by_cases he : y.id = r.id
    · rw [if_pos he, h.unique hy hr he]; exact .inr rfl
    · rw [if_neg he]; exact .inl ⟨hy, he⟩
  · rintro (⟨hx, he⟩ | rfl)
    · exact ⟨x, hx, if_neg he⟩
    · exact ⟨r, hr, if_pos rfl⟩

/-! ### The repair work (R120, R122, R124, R126, R132) -/

/-- One record changes and everything about it follows: the queues and stations lose its entry and gain what its new
state asks for, and an undo record names it only if it is REPAIRED. -/
theorem Device.RepairInv.move (h : d.RepairInv) (hm : d.dm.Inv) (hr : r ∈ d.dm.records) (hid : (f r).id = r.id)
    (hkind : (f r).kind = r.kind) (hd : d'.dm.records = (d.setDefect r.id f).dm.records)
    (hocc : d'.rq.occupancy ≤ 192) (honce : ∀ p, ((d'.rq.queues.get p).map (·.defect)).Nodup)
    (hq : ∀ p e, e ∈ d'.rq.queues.get p ↔
      (e ∈ d.rq.queues.get p ∧ e.defect ≠ r.id) ∨ (e = ⟨r.id, r.kind⟩ ∧ (f r).state = .queued p))
    (hs : ∀ n e, (d'.station n).state = .working e ↔
      ((d.station n).state = .working e ∧ e.defect ≠ r.id) ∨ (e = ⟨r.id, r.kind⟩ ∧ ∃ p, (f r).state = .assigned p n))
    (hdepth : d'.rq.undo.length ≤ 16) (hunique : (d'.rq.undo.map (·.defect)).Nodup)
    (hu : ∀ u ∈ d'.rq.undo, u.station < 8
      ∧ ((u.defect ≠ r.id ∧ u ∈ d.rq.undo) ∨ (u.defect = r.id ∧ (f r).state = .repaired))) : d'.RepairInv := by
  have hmem : ∀ x, x ∈ d'.dm.records ↔ (x ∈ d.dm.records ∧ x.id ≠ r.id) ∨ x = f r := by
    intro x; rw [hd]; exact Device.mem_setDefect hm hr
  refine ⟨hocc, honce, fun p e => ?_, fun n e => ?_, hdepth, hunique, fun u hu' => ?_⟩
  · rw [hq, h.queued]
    constructor
    · rintro (⟨⟨x, hx, hxs, rfl⟩, hne⟩ | ⟨rfl, hst⟩)
      · exact ⟨x, (hmem x).mpr (.inl ⟨hx, hne⟩), hxs, rfl⟩
      · exact ⟨f r, (hmem _).mpr (.inr rfl), hst, by rw [hid, hkind]⟩
    · rintro ⟨x, hx, hxs, rfl⟩
      rcases (hmem x).mp hx with ⟨hx, hne⟩ | rfl
      · exact .inl ⟨⟨x, hx, hxs, rfl⟩, hne⟩
      · exact .inr ⟨by rw [hid, hkind], hxs⟩
  · rw [hs, h.working]
    constructor
    · rintro (⟨⟨x, hx, q, hxs, rfl⟩, hne⟩ | ⟨rfl, q, hst⟩)
      · exact ⟨x, (hmem x).mpr (.inl ⟨hx, hne⟩), q, hxs, rfl⟩
      · exact ⟨f r, (hmem _).mpr (.inr rfl), q, hst, by rw [hid, hkind]⟩
    · rintro ⟨x, hx, q, hxs, rfl⟩
      rcases (hmem x).mp hx with ⟨hx, hne⟩ | rfl
      · exact .inl ⟨⟨x, hx, q, hxs, rfl⟩, hne⟩
      · exact .inr ⟨by rw [hid, hkind], q, hxs⟩
  · obtain ⟨h8, ⟨hne, hmem'⟩ | ⟨heq, hst⟩⟩ := hu u hu'
    · obtain ⟨_, x, hx, hxid, hxs⟩ := h.undone u hmem'
      exact ⟨h8, x, (hmem x).mpr (.inl ⟨hx, by rw [hxid]; exact hne⟩), hxid, hxs⟩
    · exact ⟨h8, f r, (hmem _).mpr (.inr rfl), by rw [hid, heq], hst⟩

/-- Records change without a change of what is QUEUED, ASSIGNED or stays REPAIRED. -/
theorem Device.RepairInv.relabel (h : d.RepairInv) {g : Defect → Defect} (hid : ∀ x, (g x).id = x.id)
    (hkind : ∀ x, (g x).kind = x.kind) (hqueued : ∀ x p, (g x).state = .queued p ↔ x.state = .queued p)
    (hassigned : ∀ x p n, (g x).state = .assigned p n ↔ x.state = .assigned p n)
    (hrepaired : ∀ x, x.state = .repaired → (g x).state = .repaired) (hrq : d'.rq = d.rq)
    (hd : d'.dm.records = d.dm.records.map g) : d'.RepairInv := by
  refine ⟨hrq ▸ h.occupancy, hrq ▸ h.once, fun p e => ?_, fun n e => ?_, hrq ▸ h.undoDepth, hrq ▸ h.undoOnce, ?_⟩
  · simp [hrq, h.queued, hd, hqueued, hid, hkind]
  · rw [show d'.station n = d.station n by simp only [Device.station, hrq], h.working]; simp [hd, hassigned, hid, hkind]
  · intro u hu
    obtain ⟨h8, x, hx, hxid, hxs⟩ := h.undone u (hrq ▸ hu)
    exact ⟨h8, g x, by rw [hd]; exact List.mem_map_of_mem hx, by rw [hid, hxid], hrepaired x hxs⟩

/-- A record that is neither QUEUED nor ASSIGNED joins the map. -/
theorem Device.RepairInv.append (h : d.RepairInv) (hs : r.state = .found) (hrq : d'.rq = d.rq)
    (hd : d'.dm.records = d.dm.records ++ [r]) : d'.RepairInv := by
  refine ⟨hrq ▸ h.occupancy, hrq ▸ h.once, fun p e => ?_, fun n e => ?_, hrq ▸ h.undoDepth, hrq ▸ h.undoOnce, ?_⟩
  · simp [hrq, h.queued, hd, or_and_right, exists_or, hs]
  · rw [show d'.station n = d.station n by simp only [Device.station, hrq], h.working]
    simp [hd, or_and_right, exists_or, hs]
  · intro u hu
    obtain ⟨h8, x, hx, hxid, hxs⟩ := h.undone u (hrq ▸ hu)
    exact ⟨h8, x, by rw [hd]; exact List.mem_append_left _ hx, hxid, hxs⟩

/-- The invariants read the defect map's records and the repair work alone. -/
theorem Device.RepairInv.congr (h : d.RepairInv) (hrq : d'.rq = d.rq) (hd : d'.dm.records = d.dm.records) :
    d'.RepairInv :=
  h.relabel (g := fun x => x) (fun _ => rfl) (fun _ => rfl) (fun _ _ => .rfl) (fun _ _ _ => .rfl) (fun _ hx => hx) hrq
    (by simpa using hd)

/-- With no records, queues, working stations and undo records there is nothing to keep. -/
theorem Device.RepairInv.empty (hd : d.dm.records = []) (hq : d.rq.queues = ⟨[], [], [], []⟩) (hu : d.rq.undo = [])
    (hs : ∀ n e, (d.station n).state ≠ .working e) : d.RepairInv := by
  have hw : d.rq.stations.toList.countP (·.state.isWorking) = 0 := by
    rw [List.countP_eq_zero]
    intro s hmem hw
    obtain ⟨n, hn, rfl⟩ := List.mem_iff_getElem.mp hmem
    have hn8 : n < 8 := by simpa using hn
    have := hs n
    rw [Device.station_eq d hn8] at this
    rw [Vector.getElem_toList] at hw
    cases hst : d.rq.stations[n].state with
    | working e => exact this e hst
    | offline => rw [hst] at hw; cases hw
    | idle => rw [hst] at hw; cases hw
  refine ⟨by simp [Repair.occupancy, hq, hw], fun p => by cases p <;> simp [hq, PerPriority.get], fun p e => ?_,
    fun n e => ?_, by simp [hu], by simp [hu], by simp [hu]⟩
  · cases p <;> simp [hq, hd, PerPriority.get]
  · simp [hd, hs]

/-! ### The repair operations -/

theorem Device.RepairInv.not_queued (h : d.RepairInv) (hm : d.dm.Inv) (hr : r ∈ d.dm.records)
    (hs : ∀ p, r.state ≠ .queued p) (p : Priority) (he : e ∈ d.rq.queues.get p) : e.defect ≠ r.id := by
  obtain ⟨x, hx, hxs, rfl⟩ := (h.queued p e).mp he
  intro hid
  rw [hm.unique hx hr hid] at hxs
  exact hs p hxs

theorem Device.RepairInv.not_working (h : d.RepairInv) (hm : d.dm.Inv) (hr : r ∈ d.dm.records)
    (hs : ∀ p n, r.state ≠ .assigned p n) {n : Nat} (he : (d.station n).state = .working e) : e.defect ≠ r.id := by
  obtain ⟨x, hx, q, hxs, rfl⟩ := (h.working n e).mp he
  intro hid
  rw [hm.unique hx hr hid] at hxs
  exact hs q n hxs

theorem Device.RepairInv.not_undone (h : d.RepairInv) (hm : d.dm.Inv) (hr : r ∈ d.dm.records)
    (hs : r.state ≠ .repaired) {u : UndoRecord} (hu : u ∈ d.rq.undo) : u.defect ≠ r.id := by
  obtain ⟨_, x, hx, hxid, hxs⟩ := h.undone u hu
  intro hid
  rw [hm.unique hx hr (hxid.trans hid)] at hxs
  exact hs hxs

/-- An enqueue of a FOUND record keeps the invariant, accepted or refused (R122, R123). -/
theorem Device.RepairInv.enqueue (h : d.RepairInv) (hm : d.dm.Inv) (hr : r ∈ d.dm.records) (hf : r.state = .found)
    (p : Priority) : (d.enqueue p r).RepairInv := by
  rcases d.enqueue_cases p r with ⟨ha, he⟩ | ⟨-, he⟩ <;> rw [he]
  · have hocc := d.rq.occupancy_queue p (d.rq.queues.get p ++ [⟨r.id, r.kind⟩])
    have hlevel : d.rq.occupancy < 192 := by
      have : d.rq.occupancy < refusalLevel p := by simpa [Device.accepts] using ha
      exact Nat.lt_of_lt_of_le this (by cases p <;> decide)
    have hout := fun q e => h.not_queued (e := e) hm hr (by simp [hf]) q
    refine h.move hm hr (f := fun x => { x with state := .queued p, refused := false }) rfl rfl rfl ?_
      (PerPriority.once_set h.once p (once_append (h.once p) (hout p))) (fun q e => ?_) (fun n e => ?_) h.undoDepth
      h.undoOnce fun u hu => ?_
    · show Repair.occupancy ⟨d.rq.queues.set p _, d.rq.stations, d.rq.undo⟩ ≤ 192
      simp only [List.length_append, List.length_singleton] at hocc
      omega
    · show e ∈ PerPriority.get (d.rq.queues.set p _) q ↔ _
      rw [PerPriority.get_set]
      split
      · subst_vars
        simp only [List.mem_append, List.mem_singleton, and_true]
        exact or_congr_left ⟨fun he => ⟨he, hout _ e he⟩, And.left⟩
      · rename_i hne
        simp only [DefectState.queued.injEq, Ne.symm hne, and_false, or_false]
        exact ⟨fun he => ⟨he, hout q e he⟩, And.left⟩
    · show (d.station n).state = _ ↔ _
      simp only [reduceCtorEq, exists_false, and_false, or_false]
      exact ⟨fun he => ⟨he, h.not_working hm hr (by simp [hf]) he⟩, And.left⟩
    · exact ⟨(h.undone u hu).1, .inl ⟨h.not_undone hm hr (by simp [hf]) hu, hu⟩⟩
  · exact h.relabel (g := fun x => if x.id = r.id then { x with refused := true } else x)
      (fun x => by split <;> rfl) (fun x => by split <;> rfl) (fun x p => by split <;> rfl)
      (fun x p n => by split <;> rfl) (fun x hx => by split <;> exact hx) rfl rfl

theorem Device.enqueue_map (hm : d.dm.Inv) (p : Priority) (r : Defect) : (d.enqueue p r).dm.Inv := by
  rcases d.enqueue_cases p r with ⟨-, he⟩ | ⟨-, he⟩ <;> rw [he]
  · exact DefectMap.Inv.setDefect (d := d.appendEntry p ⟨r.id, r.kind⟩) hm r.id fun _ => rfl
  · exact hm.setDefect r.id fun _ => rfl

theorem Device.RepairInv.autoQueue (h : d.RepairInv) (hm : d.dm.Inv) (id : Nat) :
    (d.autoQueue id).RepairInv ∧ (d.autoQueue id).dm.Inv := by
  rcases d.autoQueue_cases id with he | ⟨r, hr, hs, he⟩ <;> rw [he]
  · exact ⟨h, hm⟩
  · exact ⟨h.enqueue hm (Device.findDefect_mem hr) hs _, d.enqueue_map hm _ _⟩

/-- A finding that changes a record's severity, detail or extent only. -/
theorem Device.RepairInv.touch (h : d.RepairInv) (hid : ∀ x, (f x).id = x.id) (hkind : ∀ x, (f x).kind = x.kind)
    (hstate : ∀ x, (f x).state = x.state) (id : Nat) : (d.setDefect id f).RepairInv :=
  h.relabel (g := fun x => if x.id = id then f x else x) (fun x => by split <;> simp [hid])
    (fun x => by split <;> simp [hkind]) (fun x p => by split <;> simp [hstate])
    (fun x p n => by split <;> simp [hstate]) (fun x hx => by split <;> simp [hstate, hx]) rfl rfl

/-- A finding keeps the invariants, however it is recorded (R106 to R110). -/
theorem Device.RepairInv.record (h : d.RepairInv) (hm : d.dm.Inv) (f : Finding) :
    (d.record f).1.RepairInv ∧ (d.record f).1.dm.Inv := by
  rcases d.record_cases f with ⟨r, g, -, hg, he⟩ | ⟨hlen, r, hid, hs, -, he⟩ | ⟨-, he⟩ <;> rw [he]
  · rcases hg with ⟨-, rfl⟩ | ⟨-, rfl⟩
    · exact (h.touch (f := (·.raise f)) (fun _ => rfl) (fun _ => rfl) (fun _ => rfl) r.id).autoQueue
        (hm.setDefect r.id fun _ => rfl) r.id
    · exact (h.touch (f := fun x => { x.raise f with extent := x.extent + 1 }) (fun _ => rfl) (fun _ => rfl)
        (fun _ => rfl) r.id).autoQueue (hm.setDefect r.id fun _ => rfl) r.id
  · exact Device.RepairInv.autoQueue (d := { d with dm.records := d.dm.records ++ [r] }) (h.append hs rfl rfl)
      (hm.append hid hlen) _
  · exact ⟨h.congr rfl rfl, hm⟩

theorem Device.RepairInv.finding (h : d.RepairInv) (hm : d.dm.Inv) (f : Finding) :
    (d.finding f).RepairInv ∧ (d.finding f).dm.Inv := by
  rcases d.finding_cases f with he | he <;> rw [he]
  · exact ⟨h, hm⟩
  · exact h.record hm f

theorem Device.RepairInv.addRun (h : d.RepairInv) (hm : d.dm.Inv) (f : Finding) (n : Nat) :
    (d.addRun f n).1.RepairInv ∧ (d.addRun f n).1.dm.Inv := by
  induction n generalizing f d with
  | zero => exact ⟨h, hm⟩
  | succ n ih => exact ih (h.record hm f).1 (h.record hm f).2 _

/-- Scan gaps resolved by a rescan leave FOUND for REPAIRED (R96). -/
theorem Device.RepairInv.resolveGaps (h : d.RepairInv) (frame : Nat) : (d.resolveGaps frame).RepairInv := by
  have hfound : ∀ x : Defect, x.openGap = true → x.state = .found := by simp [Defect.openGap]
  refine h.relabel (g := fun r => if r.openGap && r.covers frame then { r with state := .repaired } else r)
    (fun x => ?_) (fun x => ?_) (fun x p => ?_) (fun x p n => ?_) (fun x hx => ?_) rfl rfl <;> split <;>
    simp_all

theorem Device.resolveGaps_map (hm : d.dm.Inv) (frame : Nat) : (d.resolveGaps frame).dm.Inv :=
  hm.map fun x => by split <;> rfl

/-- The entry in the hands of a station and the record it names (R124, R126). -/
theorem Device.RepairInv.held (h : d.RepairInv) (hm : d.dm.Inv) {n : Nat} (hw : (d.station n).state = .working e) :
    n < 8 ∧ ∃ r p, r ∈ d.dm.records ∧ r.state = .assigned p n ∧ e = ⟨r.id, r.kind⟩
      ∧ d.findDefect e.defect = some r ∧ d.priorityOf e.defect = p
      ∧ (∀ m e', (d.station m).state = .working e' → e'.defect = r.id → m = n)
      ∧ (∀ q, ∀ e' ∈ d.rq.queues.get q, e'.defect ≠ r.id) ∧ (∀ u ∈ d.rq.undo, u.defect ≠ r.id) := by
  have hn : n < 8 := by
    by_contra hn
    rw [Device.station, Vector.getElem?_eq_none (by omega)] at hw
    cases hw
  obtain ⟨r, hr, p, hs, rfl⟩ := (h.working n e).mp hw
  have hfind := hm.find hr
  refine ⟨hn, r, p, hr, hs, rfl, hfind, ?_, fun m e' hw' hid => ?_, fun q e' he' => ?_, fun u hu => ?_⟩
  · simp [Device.priorityOf, hfind, hs, DefectState.priority?]
  · obtain ⟨x, hx, q, hxs, rfl⟩ := (h.working m e').mp hw'
    rw [hm.unique hx hr hid, hs] at hxs
    injection hxs with _ hxs
    exact hxs.symm
  · exact h.not_queued hm hr (by simp [hs]) q he'
  · exact h.not_undone hm hr (by simp [hs]) hu

/-- A held defect goes back to the front of its queue (R125, R128). -/
theorem Device.RepairInv.handBack (h : d.RepairInv) (hm : d.dm.Inv) {n : Nat}
    (hw : (d.station n).state = .working e) {st : Station} (hst : st.state.isWorking = false) :
    (d.handBack n e st).RepairInv := by
  obtain ⟨hn, r, p, hr, hs, rfl, -, hp, hone, hout, hundo⟩ := h.held hm hw
  have hocc := d.rq.occupancy_queue p (⟨r.id, r.kind⟩ :: d.rq.queues.get p)
  have hocc' := Repair.occupancy_station
    { d.rq with queues := d.rq.queues.set p (⟨r.id, r.kind⟩ :: d.rq.queues.get p) } hn st
  have hheld : d.rq.stations[n].state.isWorking = true := by
    rw [← Device.station_eq d hn, hw]; rfl
  have hno : ∀ e', st.state ≠ .working e' := by
    intro e' he'; rw [he'] at hst; cases hst
  have hbound := h.occupancy
  rw [Device.handBack, hp]
  refine h.move hm hr (f := fun x => { x with state := .queued p }) rfl rfl rfl ?_
    (PerPriority.once_set h.once p (once_cons (h.once p) (hout p))) (fun q e => ?_) (fun m e => ?_) h.undoDepth
    h.undoOnce fun u hu => ?_
  · show Repair.occupancy ⟨d.rq.queues.set p _, d.rq.stations.setIfInBounds n st, d.rq.undo⟩ ≤ 192
    simp only [hheld, if_true, hst, Bool.false_eq_true, if_false, List.length_cons] at hocc hocc'
    omega
  · show e ∈ PerPriority.get (d.rq.queues.set p _) q ↔ _
    rw [PerPriority.get_set]
    split
    · subst_vars
      simp only [List.mem_cons, and_true]
      exact ⟨fun he => he.elim .inr fun he => .inl ⟨he, hout _ e he⟩, fun he => he.elim (fun he => .inr he.1) .inl⟩
    · rename_i hne
      simp only [DefectState.queued.injEq, Ne.symm hne, and_false, or_false]
      exact ⟨fun he => ⟨he, hout q e he⟩, And.left⟩
  · show (Device.station (Device.setStation n st _) m).state = _ ↔ _
    rw [Device.station_setStation _ _ hn]
    simp only [reduceCtorEq, exists_false, and_false, or_false]
    split
    · subst_vars
      refine ⟨fun he => absurd he (hno e), fun ⟨he, hne⟩ => ?_⟩
      rw [hw] at he; injection he with he; subst he; exact absurd rfl hne
    · exact ⟨fun he => ⟨he, fun hid => absurd (hone m e he hid) ‹_›⟩, And.left⟩
  · exact ⟨(h.undone u hu).1, .inl ⟨hundo u hu, hu⟩⟩

/-- An IDLE station takes an entry of a queue (R126). -/
theorem Device.RepairInv.take (h : d.RepairInv) (hm : d.dm.Inv) (he : e ∈ d.rq.queues.get p) {n : Nat} (hn : n < 8)
    (hi : (d.station n).state = .idle) (mask : BitVec 7) :
    (((d.dropEntry p e.defect).setStation n ⟨.working e, mask⟩).setDefect e.defect
      fun x => { x with state := .assigned p n }).RepairInv := by
  obtain ⟨r, hr, hs, rfl⟩ := (h.queued p e).mp he
  have hocc := d.rq.occupancy_queue p ((d.rq.queues.get p).eraseP fun x => decide (x.defect = r.id))
  have hocc' := Repair.occupancy_station ⟨d.rq.queues.set p ((d.rq.queues.get p).eraseP fun x => decide (x.defect = r.id)),
    d.rq.stations, d.rq.undo⟩ hn ⟨.working ⟨r.id, r.kind⟩, mask⟩
  have hidle : d.rq.stations[n].state.isWorking = false := by
    rw [← Device.station_eq d hn, hi]; rfl
  have hlen := List.length_eraseP_of_mem he (p := fun x => decide (x.defect = r.id)) (by simp)
  have hpos := List.length_pos_of_mem he
  have hbound := h.occupancy
  refine h.move hm hr (f := fun x => { x with state := .assigned p n }) rfl rfl rfl ?_
    (PerPriority.once_set h.once p (once_dropEntry (h.once p) r.id)) (fun q e => ?_) (fun m e => ?_) h.undoDepth
    h.undoOnce fun u hu => ?_
  · show Repair.occupancy ⟨d.rq.queues.set p ((d.rq.queues.get p).eraseP fun x => decide (x.defect = r.id)),
      d.rq.stations.setIfInBounds n _, d.rq.undo⟩ ≤ 192
    rw [if_neg (by simp [hidle]), if_pos (show (StationState.working _).isWorking = true from rfl)] at hocc'
    dsimp only at hocc hocc'
    omega
  · show e ∈ PerPriority.get (d.rq.queues.set p _) q ↔ _
    rw [PerPriority.get_set]
    simp only [reduceCtorEq, and_false, or_false]
    split
    · subst_vars; exact mem_dropEntry (h.once _) _ _
    · rename_i hne
      refine ⟨fun he => ⟨he, fun hid => ?_⟩, And.left⟩
      obtain ⟨x, hx, hxs, rfl⟩ := (h.queued q e).mp he
      rw [hm.unique hx hr hid, hs] at hxs
      injection hxs with hxs
      exact hne hxs.symm
  · show (Device.station (Device.setStation n _ _) m).state = _ ↔ _
    rw [Device.station_setStation _ _ hn]
    split
    · subst_vars
      simp only [hi, reduceCtorEq, false_and, false_or, StationState.working.injEq, DefectState.assigned.injEq, and_true,
        exists_eq']
      exact eq_comm
    · rename_i hne
      simp only [DefectState.assigned.injEq, Ne.symm hne, and_false, exists_false, or_false]
      exact ⟨fun he => ⟨he, h.not_working hm hr (by simp [hs]) he⟩, And.left⟩
  · exact ⟨(h.undone u hu).1, .inl ⟨h.not_undone hm hr (by simp [hs]) hu, hu⟩⟩

/-- A held defect is completed: its entry is freed and its record is REPAIRED, and undoable, or WAIVED (R129, R130). -/
theorem Device.RepairInv.complete (h : d.RepairInv) (hm : d.dm.Inv) {n : Nat}
    (hw : (d.station n).state = .working e) {st : Station} (hst : st.state.isWorking = false)
    (hid : ∀ x, (f x).id = x.id) (hkind : ∀ x, (f x).kind = x.kind)
    (hstate : ∀ x, (f x).state = .repaired ∨ (f x).state = .waived) {undo : List UndoRecord}
    (hundo : undo = d.rq.undo ∨ ((∀ x, (f x).state = .repaired) ∧ ∃ p, undo = ⟨e.defect, n, p⟩ :: d.rq.undo.take 15))
    (hrq : d'.rq = { d.rq with stations := d.rq.stations.setIfInBounds n st, undo := undo })
    (hd : d'.dm.records = (d.setDefect e.defect f).dm.records) : d'.RepairInv := by
  obtain ⟨hn, r, p, hr, hs, rfl, -, -, hone, hout, hno⟩ := h.held hm hw
  have hocc := d.rq.occupancy_station hn st
  have hbound := h.occupancy
  have hfree : ∀ e', st.state ≠ .working e' := by
    intro e' he'; rw [he'] at hst; cases hst
  have hq : ∀ q, (f r).state ≠ .queued q := fun q => by rcases hstate r with h | h <;> simp [h]
  have ha : ∀ q m, (f r).state ≠ .assigned q m := fun q m => by rcases hstate r with h | h <;> simp [h]
  have hun : undo.length ≤ 16 ∧ (undo.map (·.defect)).Nodup
      ∧ ∀ u ∈ undo, u.station < 8 ∧ ((u.defect ≠ r.id ∧ u ∈ d.rq.undo) ∨ (u.defect = r.id ∧ (f r).state = .repaired)) := by
    have hold := fun u (hu : u ∈ d.rq.undo) => (⟨(h.undone u hu).1, .inl ⟨hno u hu, hu⟩⟩ :
      u.station < 8 ∧ ((u.defect ≠ r.id ∧ u ∈ d.rq.undo) ∨ (u.defect = r.id ∧ (f r).state = .repaired)))
    rcases hundo with rfl | ⟨hrep, q, rfl⟩
    · exact ⟨h.undoDepth, h.undoOnce, hold⟩
    · refine ⟨by simp only [List.length_cons, List.length_take]; omega, ?_, fun u hu => ?_⟩
      · rw [List.map_cons, List.nodup_cons]
        refine ⟨fun hin => ?_, ((List.take_sublist _ _).map _).nodup h.undoOnce⟩
        obtain ⟨u, hu, hid⟩ := List.mem_map.mp hin
        exact hno u (List.mem_of_mem_take hu) hid
      · rcases List.mem_cons.mp hu with rfl | hu
        · exact ⟨hn, .inr ⟨rfl, hrep r⟩⟩
        · exact hold u (List.mem_of_mem_take hu)
  refine h.move hm hr (hid r) (hkind r) hd ?_ (fun q => by rw [hrq]; exact h.once q) (fun q e => ?_) (fun m e => ?_)
    (by rw [hrq]; exact hun.1) (by rw [hrq]; exact hun.2.1) (by rw [hrq]; exact hun.2.2)
  · have : d'.rq.occupancy = Repair.occupancy ⟨d.rq.queues, d.rq.stations.setIfInBounds n st, d.rq.undo⟩ := by
      rw [hrq]; rfl
    rw [hst, if_neg Bool.false_ne_true] at hocc
    omega
  · rw [hrq]
    simp only [hq, and_false, or_false]
    exact ⟨fun he => ⟨he, hout q e he⟩, And.left⟩
  · have : d'.station m = (d.setStation n st).station m := by simp only [Device.station, hrq, Device.setStation]
    rw [this, Device.station_setStation _ _ hn]
    simp only [ha, exists_false, and_false, or_false]
    split
    · subst_vars
      refine ⟨fun he => absurd he (hfree e), fun ⟨he, hne⟩ => ?_⟩
      rw [hw] at he; injection he with he; subst he; exact absurd rfl hne
    · exact ⟨fun he => ⟨he, fun hid => absurd (hone m e he hid) ‹_›⟩, And.left⟩

/-- A FOUND record is set aside (R114). -/
theorem Device.RepairInv.waiveFound (h : d.RepairInv) (hm : d.dm.Inv) (hr : r ∈ d.dm.records) (hs : r.state = .found) :
    (d.setDefect r.id fun x => { x with state := .waived }).RepairInv := by
  refine h.move hm hr (f := fun x => { x with state := .waived }) rfl rfl rfl h.occupancy h.once (fun q e => ?_)
    (fun n e => ?_) h.undoDepth h.undoOnce fun u hu => ⟨(h.undone u hu).1, .inl ⟨h.not_undone hm hr (by simp [hs]) hu, hu⟩⟩
  · simp only [reduceCtorEq, and_false, or_false]
    exact ⟨fun he => ⟨he, h.not_queued hm hr (by simp [hs]) q he⟩, And.left⟩
  · simp only [reduceCtorEq, exists_false, and_false, or_false]
    exact ⟨fun he => ⟨he, h.not_working hm hr (by simp [hs]) he⟩, And.left⟩

/-- The entry of a QUEUED record leaves its queue, and the record is set aside or joins a tail (R114, R115). -/
theorem Device.RepairInv.leave (h : d.RepairInv) (hm : d.dm.Inv) (hr : r ∈ d.dm.records) (hs : r.state = .queued p) :
    ((d.dropEntry p r.id).setDefect r.id fun x => { x with state := .waived }).RepairInv
    ∧ ∀ p', (((d.dropEntry p r.id).appendEntry p' ⟨r.id, r.kind⟩).setDefect r.id
        fun x => { x with state := .queued p' }).RepairInv := by
  have he : (⟨r.id, r.kind⟩ : Entry) ∈ d.rq.queues.get p := (h.queued p _).mpr ⟨r, hr, hs, rfl⟩
  have hlen := List.length_eraseP_of_mem he (p := fun x => decide (x.defect = r.id)) (by simp)
  have hpos := List.length_pos_of_mem he
  have hocc := d.rq.occupancy_queue p ((d.rq.queues.get p).eraseP fun x => decide (x.defect = r.id))
  have hbound := h.occupancy
  have hother : ∀ q e, e ∈ PerPriority.get (d.dropEntry p r.id).rq.queues q ↔ e ∈ d.rq.queues.get q ∧ e.defect ≠ r.id := by
    intro q e
    show e ∈ PerPriority.get (d.rq.queues.set p _) q ↔ _
    rw [PerPriority.get_set]
    split
    · subst_vars; exact mem_dropEntry (h.once _) _ _
    · rename_i hne
      refine ⟨fun he => ⟨he, fun hid => ?_⟩, And.left⟩
      obtain ⟨x, hx, hxs, rfl⟩ := (h.queued q e).mp he
      rw [hm.unique hx hr hid, hs] at hxs
      injection hxs with hxs
      exact hne hxs.symm
  have honce : ∀ q, ((PerPriority.get (d.dropEntry p r.id).rq.queues q).map (·.defect)).Nodup :=
    PerPriority.once_set h.once p (once_dropEntry (h.once p) r.id)
  have hu : ∀ u ∈ d.rq.undo, u.station < 8 ∧ u.defect ≠ r.id ∧ u ∈ d.rq.undo :=
    fun u hu => ⟨(h.undone u hu).1, h.not_undone hm hr (by simp [hs]) hu, hu⟩
  have hws := fun {n e} => h.not_working (e := e) (n := n) hm hr (by simp [hs])
  constructor
  · refine h.move hm hr (f := fun x => { x with state := .waived }) rfl rfl rfl ?_ honce (fun q e => ?_)
      (fun n e => ?_) h.undoDepth h.undoOnce fun u hu' => ⟨(hu u hu').1, .inl (hu u hu').2⟩
    · show Repair.occupancy ⟨d.rq.queues.set p _, d.rq.stations, d.rq.undo⟩ ≤ 192
      omega
    · show e ∈ PerPriority.get (d.dropEntry p r.id).rq.queues q ↔ _
      rw [hother]; simp only [reduceCtorEq, and_false, or_false]
    · show (d.station n).state = _ ↔ _
      simp only [reduceCtorEq, exists_false, and_false, or_false]
      exact ⟨fun he => ⟨he, hws he⟩, And.left⟩
  · intro p'
    have hocc' := (d.dropEntry p r.id).rq.occupancy_queue p'
      (PerPriority.get (d.dropEntry p r.id).rq.queues p' ++ [⟨r.id, r.kind⟩])
    refine h.move hm hr (f := fun x => { x with state := .queued p' }) rfl rfl rfl ?_
      (PerPriority.once_set honce p' (once_append (honce p') fun x hx => ((hother p' x).mp hx).2)) (fun q e => ?_)
      (fun n e => ?_) h.undoDepth h.undoOnce fun u hu' => ⟨(hu u hu').1, .inl (hu u hu').2⟩
    · show Repair.occupancy ⟨(d.dropEntry p r.id).rq.queues.set p' _, d.rq.stations, d.rq.undo⟩ ≤ 192
      change _ = Repair.occupancy ⟨d.rq.queues.set p _, d.rq.stations, d.rq.undo⟩ + _ at hocc'
      change Repair.occupancy ⟨(d.dropEntry p r.id).rq.queues.set p' _, d.rq.stations, d.rq.undo⟩ + _ = _ at hocc'
      simp only [List.length_append, List.length_singleton] at hocc'
      omega
    · show e ∈ PerPriority.get (PerPriority.set (d.dropEntry p r.id).rq.queues p' _) q ↔ _
      rw [PerPriority.get_set]
      split
      · subst_vars; rw [List.mem_append, List.mem_singleton, hother]; simp only [and_true]
      · rename_i hne
        rw [hother]; simp only [DefectState.queued.injEq, Ne.symm hne, and_false, or_false]
    · show (d.station n).state = _ ↔ _
      simp only [reduceCtorEq, exists_false, and_false, or_false]
      exact ⟨fun he => ⟨he, hws he⟩, And.left⟩

/-- The top undo record takes its repair back (R133). -/
theorem Device.RepairInv.undo (h : d.RepairInv) (hm : d.dm.Inv) {u : UndoRecord} {rest : List UndoRecord}
    (hu : d.rq.undo = u :: rest) (hr : r ∈ d.dm.records) (hid : r.id = u.defect) (hroom : d.rq.occupancy < 192) :
    ((({ d with rq.undo := rest } : Device).frontEntry u.priority ⟨r.id, r.kind⟩).setDefect r.id
      fun x => { x with state := .queued u.priority, refused := false }).RepairInv := by
  have hs : r.state = .repaired := by
    obtain ⟨_, x, hx, hxid, hxs⟩ := h.undone u (by simp [hu])
    rw [← hm.unique hx hr (hxid.trans hid.symm)]; exact hxs
  have hocc := d.rq.occupancy_queue u.priority (⟨r.id, r.kind⟩ :: d.rq.queues.get u.priority)
  have hout := fun q e => h.not_queued (e := e) hm hr (by simp [hs]) q
  have hone := h.undoOnce
  have hdepth := h.undoDepth
  rw [hu] at hdepth
  rw [hu, List.map_cons, List.nodup_cons] at hone
  refine h.move hm hr (f := fun x => { x with state := .queued u.priority, refused := false }) rfl rfl rfl ?_
    (PerPriority.once_set h.once u.priority (once_cons (h.once _) (hout _))) (fun q e => ?_) (fun n e => ?_)
    (Nat.le_of_succ_le hdepth) hone.2 fun v hv => ?_
  · show Repair.occupancy ⟨d.rq.queues.set u.priority (⟨r.id, r.kind⟩ :: d.rq.queues.get u.priority), d.rq.stations,
      rest⟩ ≤ 192
    change Repair.occupancy ⟨d.rq.queues.set u.priority _, d.rq.stations, rest⟩ + _ = _ at hocc
    simp only [List.length_cons] at hocc
    omega
  · show e ∈ PerPriority.get (d.rq.queues.set u.priority _) q ↔ _
    rw [PerPriority.get_set]
    split
    · subst_vars
      simp only [List.mem_cons, and_true]
      exact ⟨fun he => he.elim .inr fun he => .inl ⟨he, hout _ e he⟩, fun he => he.elim (fun he => .inr he.1) .inl⟩
    · rename_i hne
      simp only [DefectState.queued.injEq, Ne.symm hne, and_false, or_false]
      exact ⟨fun he => ⟨he, hout q e he⟩, And.left⟩
  · show (d.station n).state = _ ↔ _
    simp only [reduceCtorEq, exists_false, and_false, or_false]
    exact ⟨fun he => ⟨he, h.not_working hm hr (by simp [hs]) he⟩, And.left⟩
  · have hv' : v ∈ d.rq.undo := by rw [hu]; exact List.mem_cons_of_mem _ hv
    exact ⟨(h.undone v hv').1, .inl ⟨fun he => hone.1 (List.mem_map.mpr ⟨v, hv, by rw [he, hid]⟩), hv'⟩⟩

/-- A station's settings change while what it holds stays (R125). -/
theorem Device.RepairInv.restation (h : d.RepairInv) {n : Nat} (hn : n < 8) {st : Station}
    (hst : ∀ e, st.state = .working e ↔ (d.station n).state = .working e) : (d.setStation n st).RepairInv := by
  have hocc := d.rq.occupancy_station hn st
  have hsame : st.state.isWorking = d.rq.stations[n].state.isWorking := by
    rw [← Device.station_eq d hn]
    cases h1 : st.state <;> cases h2 : (d.station n).state <;> simp_all [StationState.isWorking, StationState.held?]
  refine ⟨?_, h.once, h.queued, fun m e => ?_, h.undoDepth, h.undoOnce, h.undone⟩
  · have hbound := h.occupancy
    show Repair.occupancy ⟨d.rq.queues, d.rq.stations.setIfInBounds n st, d.rq.undo⟩ ≤ 192
    simp only [hsame] at hocc
    omega
  · rw [Device.station_setStation _ _ hn]
    refine Iff.trans ?_ (h.working m e)
    split
    · subst_vars; exact hst e
    · rfl

/-! ### The requests of DM and RQ (R112 to R115, R125 to R130, R133) -/

theorem withHeld_cases (station : Byte) (defect : BitVec 16) (bad : Bool) (d : Device)
    (f : Nat → Station → Entry → Device × Answer) :
    (withHeld station defect bad d f).1 = d
    ∨ ∃ e, station.toNat < 8 ∧ (d.station station.toNat).state = .working e
      ∧ withHeld station defect bad d f = f station.toNat (d.station station.toNat) e := by
  simp only [withHeld, refuse, refuseWith]
  split
  · exact .inl rfl
  split
  · exact .inl rfl
  split
  · exact .inl rfl
  split
  · rename_i e he
    split
    · exact .inr ⟨e, by omega, he, rfl⟩
    · exact .inl rfl
  · exact .inl rfl
  · exact .inl rfl

theorem withDefect_cases (id : BitVec 16) (d : Device) (f : Defect → Device × Answer) :
    (withDefect id d f).1 = d ∨ ∃ r, d.findDefect id.toNat = some r ∧ withDefect id d f = f r := by
  simp only [withDefect, refuse]
  split
  · exact .inl rfl
  split
  · exact .inl rfl
  split
  · exact .inl rfl
  · exact .inr ⟨_, ‹_›, rfl⟩

theorem answerAddDefect_keeps (h : d.RepairInv) (hm : d.dm.Inv) (op : AddDefectOperands) :
    (answerAddDefect op d).1.RepairInv ∧ (answerAddDefect op d).1.dm.Inv := by
  simp only [answerAddDefect, withFrame, refuse]
  repeat' split
  all_goals first
    | exact ⟨h, hm⟩
    | exact h.addRun hm _ _

theorem answerQueueDefect_keeps (h : d.RepairInv) (hm : d.dm.Inv) (defect : BitVec 16) (priority : Byte) :
    (answerQueueDefect defect priority d).1.RepairInv ∧ (answerQueueDefect defect priority d).1.dm.Inv := by
  simp only [answerQueueDefect]
  rcases withDefect_cases defect d _ with he | ⟨r, hr, he⟩ <;> rw [he]
  · exact ⟨h, hm⟩
  · simp only [refuse, refuseWith]
    split
    · exact ⟨h, hm⟩
    split
    · exact ⟨h, hm⟩
    split
    · exact ⟨h, hm⟩
    · exact ⟨h.enqueue hm (Device.findDefect_mem hr) (not_not.mp ‹_›) _, d.enqueue_map hm _ _⟩

theorem answerWaiveDefect_keeps (h : d.RepairInv) (hm : d.dm.Inv) (defect : BitVec 16) :
    (answerWaiveDefect defect d).1.RepairInv ∧ (answerWaiveDefect defect d).1.dm.Inv := by
  simp only [answerWaiveDefect]
  rcases withDefect_cases defect d _ with he | ⟨r, hr, he⟩ <;> rw [he]
  · exact ⟨h, hm⟩
  · have hmem := Device.findDefect_mem hr
    simp only [refuse, refuseWith]
    split
    · exact ⟨h.waiveFound hm hmem ‹_›, hm.setDefect _ fun _ => rfl⟩
    · exact ⟨(h.leave hm hmem ‹_›).1, DefectMap.Inv.setDefect (d := d.dropEntry _ r.id) hm _ fun _ => rfl⟩
    all_goals exact ⟨h, hm⟩

theorem answerRequeueDefect_keeps (h : d.RepairInv) (hm : d.dm.Inv) (defect : BitVec 16) (priority : Byte) :
    (answerRequeueDefect defect priority d).1.RepairInv ∧ (answerRequeueDefect defect priority d).1.dm.Inv := by
  simp only [answerRequeueDefect]
  rcases withDefect_cases defect d _ with he | ⟨r, hr, he⟩ <;> rw [he]
  · exact ⟨h, hm⟩
  · have hmem := Device.findDefect_mem hr
    simp only [refuse, refuseWith]
    split
    · exact ⟨h, hm⟩
    split
    · exact ⟨(h.leave hm hmem ‹_›).2 _,
        DefectMap.Inv.setDefect (d := (d.dropEntry _ r.id).appendEntry _ _) hm _ fun _ => rfl⟩
    all_goals exact ⟨h, hm⟩

theorem answerSetStation_keeps (h : d.RepairInv) (hm : d.dm.Inv) (station enabled mask : Byte) :
    (answerSetStation station enabled mask d).1.RepairInv ∧ (answerSetStation station enabled mask d).1.dm.Inv := by
  simp only [answerSetStation, refuse]
  split
  · exact ⟨h, hm⟩
  have hn : station.toNat < 8 := by omega
  split
  · exact ⟨h, hm⟩
  split
  · exact ⟨h, hm⟩
  split
  · rename_i hw _
    exact ⟨h.handBack hm hw rfl,
      DefectMap.Inv.setDefect (d := (d.frontEntry _ _).setStation _ _) hm _ fun _ => rfl⟩
  · rename_i hw _
    exact ⟨h.restation hn fun e' => by rw [hw], hm⟩
  all_goals
    rename_i hw _
    exact ⟨h.restation hn fun e' => by rw [hw]; dsimp only; split <;> simp, hm⟩

theorem Repair.select_mem {r : Repair} {mask : BitVec 7} (h : r.select mask = some (p, e)) : e ∈ r.queues.get p := by
  obtain ⟨q, -, hq⟩ := List.exists_of_findSome?_eq_some h
  rw [Option.map_eq_some_iff] at hq
  obtain ⟨e', he', heq⟩ := hq
  injection heq with h1 h2
  subst h1; subst h2
  exact List.mem_of_find?_eq_some he'

theorem answerTakeWork_keeps (h : d.RepairInv) (hm : d.dm.Inv) (station : Byte) :
    (answerTakeWork station d).1.RepairInv ∧ (answerTakeWork station d).1.dm.Inv := by
  simp only [answerTakeWork, refuse, refuseWith]
  split
  · exact ⟨h, hm⟩
  split
  · exact ⟨h, hm⟩
  · exact ⟨h, hm⟩
  · rename_i hi
    split
    · exact ⟨h, hm⟩
    · rename_i p e hs
      exact ⟨h.take hm (Repair.select_mem hs) (by omega) hi _,
        DefectMap.Inv.setDefect (d := (d.dropEntry _ _).setStation _ _) hm _ fun _ => rfl⟩

theorem answerReturnWork_keeps (h : d.RepairInv) (hm : d.dm.Inv) (station : Byte) (defect : BitVec 16) :
    (answerReturnWork station defect d).1.RepairInv ∧ (answerReturnWork station defect d).1.dm.Inv := by
  simp only [answerReturnWork]
  rcases withHeld_cases station defect false d _ with he | ⟨e, hn, hw, he⟩ <;> rw [he]
  · exact ⟨h, hm⟩
  · exact ⟨h.handBack hm hw rfl, DefectMap.Inv.setDefect (d := (d.frontEntry _ _).setStation _ _) hm _ fun _ => rfl⟩

theorem answerCompleteWork_keeps (h : d.RepairInv) (hm : d.dm.Inv) (station : Byte) (defect : BitVec 16)
    (outcome : Byte) : (answerCompleteWork station defect outcome d).1.RepairInv
      ∧ (answerCompleteWork station defect outcome d).1.dm.Inv := by
  simp only [answerCompleteWork]
  rcases withHeld_cases station defect _ d _ with he | ⟨e, hn, hw, he⟩ <;> rw [he]
  · exact ⟨h, hm⟩
  · by_cases ho : outcome = 0
    · simp only [ho, if_true]
      exact ⟨h.complete hm hw (st := { d.station station.toNat with state := .idle }) rfl
        (f := fun x => { x with state := .repaired }) (fun _ => rfl) (fun _ => rfl) (fun _ => .inl rfl)
        (.inr ⟨fun _ => rfl, _, rfl⟩) rfl rfl, hm.setDefect _ fun _ => rfl⟩
    · simp only [ho, if_false]
      exact ⟨h.complete hm hw (st := { d.station station.toNat with state := .idle }) rfl
        (f := fun x => { x with state := .waived, detail := 65535 }) (fun _ => rfl) (fun _ => rfl) (fun _ => .inr rfl)
        (.inl rfl) rfl rfl, hm.setDefect _ fun _ => rfl⟩

theorem answerUndoRepair_keeps (h : d.RepairInv) (hm : d.dm.Inv) :
    (answerUndoRepair d).1.RepairInv ∧ (answerUndoRepair d).1.dm.Inv := by
  simp only [answerUndoRepair, refuse, refuseWith]
  split
  · exact ⟨h, hm⟩
  · rename_i u rest hu
    split
    · exact ⟨h, hm⟩
    · obtain ⟨-, x, hx, hxid, -⟩ := h.undone u (by simp [hu])
      have hfind : d.findDefect u.defect = some x := hxid ▸ hm.find hx
      have := h.undo hm hu hx hxid (by omega)
      rw [hxid] at this
      simp only [hfind, Option.map_some, Option.getD_some]
      exact ⟨this, DefectMap.Inv.setDefect (d := (Device.frontEntry _ _ { d with rq.undo := rest })) hm _ fun _ => rfl⟩

/-! ### Shots (R140 to R142) -/

variable {g g' : Grading}

/-- A change of the shots that keeps their first frames. -/
theorem Grading.ShotsInv.congr (h : g.ShotsInv) (he : g'.shots.map (·.first) = g.shots.map (·.first)) : g'.ShotsInv := by
  obtain ⟨hlen, hrise, hzero⟩ := h
  refine ⟨by rw [← List.length_map (f := (·.first)), he, List.length_map]; exact hlen, by rw [he]; exact hrise, ?_⟩
  intro x hx
  have : (g'.shots.map (·.first)).head? = some x.first := by rw [List.head?_map]; simp_all
  rw [he, List.head?_map, Option.map_eq_some_iff] at this
  obtain ⟨y, hy, hyx⟩ := this
  rw [← hyx]; exact hzero y hy

theorem Grading.ShotsInv.modify (h : g.ShotsInv) (i : Nat) {f : Shot → Shot} (hf : ∀ x, (f x).first = x.first) :
    ({ g with shots := g.shots.modify i f } : Grading).ShotsInv := by
  refine h.congr ?_
  apply List.ext_getElem?
  intro j
  simp only [List.getElem?_map, List.getElem?_modify]
  cases g.shots[j]? with
  | none => rfl
  | some x => by_cases hj : i = j <;> simp [hj, hf]

/-- Rising shots part at a frame: those that begin at or below it, and those that begin above it. -/
theorem shots_part {l : List Shot} (h : (l.map (·.first)).Pairwise (· < ·)) (frame : Nat) :
    ∃ before after, l = before ++ after ∧ (∀ y ∈ before, y.first ≤ frame) ∧ ∀ y ∈ after, frame < y.first := by
  induction l with
  | nil => exact ⟨[], [], by simp⟩
  | cons a l ih =>
    rw [List.map_cons, List.pairwise_cons] at h
    by_cases ha : a.first ≤ frame
    · obtain ⟨b, c, rfl, hb, hc⟩ := ih h.2
      exact ⟨a :: b, c, rfl, by simpa [ha] using hb, hc⟩
    · refine ⟨[], a :: l, rfl, by simp, fun y hy => ?_⟩
      rcases List.mem_cons.mp hy with rfl | hy
      · omega
      · have := h.1 y.first (List.mem_map_of_mem hy); omega

theorem insertIdx_at {α : Type} (l r : List α) (a : α) : (l ++ r).insertIdx l.length a = l ++ a :: r := by
  induction l with
  | nil => rfl
  | cons b l ih => simp [ih]

theorem answerDefineShot_keeps (h : d.gu.ShotsInv) (ref : FrameRef) (label : BitVec 32) :
    (answerDefineShot ref label d).1.gu.ShotsInv := by
  simp only [answerDefineShot, withFrame, refuse]
  split
  · rename_i frame _
    split
    · exact h
    split
    · exact h
    split
    · exact h.modify _ fun _ => rfl
    split
    · exact h
    · rename_i s hs _ hne hlen
      obtain ⟨hle, hrise, hzero⟩ := h
      obtain ⟨before, after, hl, hb, ha⟩ := shots_part hrise frame
      have hcount : d.gu.shots.countP (fun x => decide (x.first ≤ frame)) = before.length := by
        have h1 : before.countP (fun x => decide (x.first ≤ frame)) = before.length := by
          simpa [List.countP_eq_length] using hb
        have h2 : after.countP (fun x => decide (x.first ≤ frame)) = 0 := by simpa [List.countP_eq_zero] using ha
        rw [hl, List.countP_append, h1, h2, Nat.add_zero]
      simp only [Grading.shotIndex, hcount] at hs ⊢
      rcases List.eq_nil_or_concat before with rfl | ⟨b, x, rfl⟩
      · rw [hl] at hs hzero
        cases after with
        | nil => simp at hs
        | cons y ys =>
          have := hzero y (by simp); have := ha y (by simp); omega
      · have hlen' : (b.concat x).length - 1 + 1 = (b ++ [x]).length := by simp
        simp only [List.concat_eq_append] at *
        have hsx : s = x := by
          rw [hl] at hs
          simp at hs
          exact hs.symm
        subst hsx
        have hlt : s.first < frame := by
          have := hb s (by simp); omega
        rw [hl, List.map_append, List.map_append, List.pairwise_append, List.pairwise_append] at hrise
        obtain ⟨⟨hb1, -, hb2⟩, ha1, hba⟩ := hrise
        have hins : d.gu.shots.insertIdx ((b ++ [s]).length - 1 + 1) ⟨frame, label, none, 0⟩
            = b ++ [s] ++ ⟨frame, label, none, 0⟩ :: after := by
          rw [hlen', hl]; exact insertIdx_at _ _ _
        refine ⟨?_, ?_, ?_⟩
        · show (List.insertIdx _ _ _).length ≤ 512
          rw [hins]
          rw [hl] at hlen
          simp only [List.length_append, List.length_cons, List.length_nil] at hlen ⊢
          omega
        · show (List.map _ (List.insertIdx _ _ _)).Pairwise _
          rw [hins, List.map_append, List.map_append, List.pairwise_append, List.pairwise_append]
          refine ⟨⟨hb1, List.pairwise_singleton _ _, hb2⟩, List.pairwise_cons.mpr ⟨fun y hy => ?_, ha1⟩,
            fun y hy z hz => ?_⟩
          · obtain ⟨w, hw, rfl⟩ := List.mem_map.mp hy
            exact ha w hw
          · rcases List.mem_cons.mp hz with rfl | hz
            · rcases List.mem_append.mp hy with hb' | hy'
              · exact Nat.lt_trans (hb2 y hb' s.first (by simp)) hlt
              · rw [List.map_singleton, List.mem_singleton] at hy'; subst hy'; exact hlt
            · exact hba y hy z hz
        · show ∀ z ∈ (List.insertIdx _ _ _).head?, _
          rw [hins]
          intro z hz
          refine hzero z ?_
          rw [hl]
          cases b <;> simpa using hz
  · exact h

theorem answerDeleteShot_keeps (h : d.gu.ShotsInv) (index : BitVec 16) : (answerDeleteShot index d).1.gu.ShotsInv := by
  simp only [answerDeleteShot, withShot, refuse]
  repeat' split
  all_goals first
    | exact h
    | skip
  obtain ⟨hle, hrise, hzero⟩ := h
  refine ⟨Nat.le_trans (List.length_eraseIdx_le _ _) hle, ?_, ?_⟩
  · exact hrise.sublist ((List.eraseIdx_sublist _ _).map _)
  · show ∀ z ∈ (List.eraseIdx _ _).head?, _
    cases hl : d.gu.shots with
    | nil => simp
    | cons a l =>
      rw [hl] at hzero
      cases hi : index.toNat with
      | zero => omega
      | succ n => simpa [hi] using hzero

end Sys2Proof.Machine
end

