-- ==== Sys2Proof/WellFormed.lean ====
section
/-! DEFINITION. When a command's operands are ones its line can carry. The types already hold the widths (a tension
sample is 12 bits, R48; a capstan position 32, R72); these are the checks that remain. -/

namespace Sys2Proof

/-- The kind of an unknown request is one the catalogue does not list, and its body has at most 240 bytes (R172, R175). -/
def unknownKindFits (kind : Byte) (body : List Byte) : Bool :=
  (Kind.ofCode kind).isNone && decide (body.length ≤ 240)

/-- A run of characters holds at least one. -/
def runFits (chars : List LineChar) : Bool := !chars.isEmpty

/-- A collision falls on a character of a reply frame: at most 5 characters, 255 of body and 2 of check (R177, R184). -/
def collisionFits (position : Nat) : Bool := decide (position < 262)

/-- Address 15 names every unit, so it is never an address of other value on the host link (R171). -/
def hostOtherFits (value : Byte) : Bool := value != 15

/-- Address 0 is the pipeline port's own (R178). -/
def pipelineOtherFits (value : Byte) : Bool := value != 0

def Instr.wellFormed : Instr → Bool
  | .fullReset .. => true
  | .runCounterTick => true
  | .suiteClockTick => true
  | .tensionSample .. => true
  | .filmPresentRises => true
  | .filmPresentFalls => true
  | .perforationEdge .. => true
  | .acclimatizationExpiry .. => true
  | .reportDeadlineExpiry .. => true
  | .threadingTimerExpiry => true
  | .relaxTimerExpiry => true
  | .strainWarningPersistenceExpiry => true
  | .slipPersistenceExpiry => true
  | .requestFrame chars => runFits chars
  | .hostCharacterError => true
  | .hostGapTimeout => true
  | .hostBreak => true
  | .frameReport chars => runFits chars
  | .pipelineCharacterError => true
  | .pipelineGapTimeout => true
  | .pipelineBreak => true
  | .captureOrderSent => true
  | .replyStart => true
  | .replyComplete => true
  | .collision position => collisionFits position
  | .unknownRequestKind _ kind body => unknownKindFits kind body
  | .identify .. => true
  | .restartSuite .. => true
  | .snapshotCounters .. => true
  | .readCounters .. => true
  | .clearCounters .. => true
  | .readClock .. => true
  | .adjustClock .. => true
  | .trimClock .. => true
  | .enrolReel .. => true
  | .withdrawReel .. => true
  | .requestReel .. => true
  | .reelArrived .. => true
  | .loadReel .. => true
  | .unloadReel .. => true
  | .reelPlaced .. => true
  | .recallReel .. => true
  | .setCondition .. => true
  | .grantPasses .. => true
  | .reelStatus .. => true
  | .listReels .. => true
  | .closeSlot .. => true
  | .openSlot .. => true
  | .setZoneTime .. => true
  | .setZonePolicy .. => true
  | .slotStatus .. => true
  | .listHold .. => true
  | .zoneStatus .. => true
  | .setTransport .. => true
  | .runPass .. => true
  | .stop .. => true
  | .release .. => true
  | .readIncident .. => true
  | .clearIncident .. => true
  | .transportStatus .. => true
  | .setHead .. => true
  | .setMark .. => true
  | .trackerStatus .. => true
  | .setCapture .. => true
  | .captureStatus .. => true
  | .addDefect .. => true
  | .queueDefect .. => true
  | .waiveDefect .. => true
  | .requeueDefect .. => true
  | .listDefects .. => true
  | .defectSummary .. => true
  | .setDefectPolicy .. => true
  | .setStation .. => true
  | .takeWork .. => true
  | .returnWork .. => true
  | .completeWorkRepaired .. => true
  | .completeWorkUnrepairable .. => true
  | .undoRepair .. => true
  | .queueStatus .. => true
  | .listQueue .. => true
  | .defineShot .. => true
  | .deleteShot .. => true
  | .lockShot .. => true
  | .unlockShot .. => true
  | .listShots .. => true
  | .setRule .. => true
  | .clearRule .. => true
  | .setFadeWindow .. => true
  | .clearExtremes .. => true
  | .fadeStatus .. => true
  | .evaluateGrade .. => true
  | .fetchNotices .. => true
  | .setAttentionMask .. => true
  | .hostLineReturnsHigh => true
  | .pipelineLineReturnsHigh => true
  | .addressCharacterOfOtherValue value => hostOtherFits value
  | .pipelineAddressOfOtherValue value => pipelineOtherFits value

end Sys2Proof
end

