-- ==== Sys2Proof/Tests/Slice0.lean ====
section
/-! SUPPORT. Tests: ill-formed commands, the manual's worked cases (expected values from its tables, each named), and
for every obligation with hypotheses a witness that meets them, at the ends of their ranges. -/

set_option Elab.async false

namespace Sys2Proof.Tests

open Sys2Proof.Machine

/-! ### Ill-formed commands are refused -/

theorem test_listed_kind_is_ill_formed : (Instr.unknownRequestKind ⟨0, false⟩ 1 []).wellFormed = false := by decide
theorem test_long_unknown_body_is_ill_formed :
    (Instr.unknownRequestKind ⟨0, false⟩ 0 (List.replicate 241 0)).wellFormed = false := by decide +kernel
theorem test_empty_request_run_is_ill_formed : (Instr.requestFrame []).wellFormed = false := by decide
theorem test_empty_report_run_is_ill_formed : (Instr.frameReport []).wellFormed = false := by decide
theorem test_collision_past_frame_is_ill_formed : (Instr.collision 262).wellFormed = false := by decide
theorem test_broadcast_address_is_own : (Instr.addressCharacterOfOtherValue 15).wellFormed = false := by decide
theorem test_pipeline_address_0_is_own : (Instr.pipelineAddressOfOtherValue 0).wellFormed = false := by decide

/-! ### States -/

/-- Reel 9580 of 9.7: 35 mm, label 17.40.3.1, fade reference 210, 0, 230. -/
def reel (state : ReelState) : Reel :=
  { id := 9580, gauge := .g35, length := 3000, label := 0x11280301, cls := .a, permit := false, shrinkage := 125
    passes := 3, passTotal := 0, fadeRef := ⟨210, 0, 230⟩, home := .cold, state, deferred := 0, graded := false
    sessionLost := false }

/-- The reset state with one reel. -/
def holding (state : ReelState) : State := { State.reset with dev.reels := [reel state] }

/-- The tracker of 5.9: P16 75,050 after a load at shrinkage 125. -/
def tracker : Tracker :=
  { gauge := .g35, length := 3000, last := none, p16 := 75050, count := 0, head := 300, markA := none, markB := none
    latest := 0, peak := 125 }

def shot (first : Nat) (label : BitVec 32) : Shot := { first, label, snapshot := none, clipRisk := 0 }

/-- A session of the reel, the transport STOPPED with film and alignment good. -/
def session : State :=
  { State.reset with
    dev.reels := [reel .loaded], dev.pt := some tracker, dev.gu.shots := [shot 0 0x11280301]
    dev.tc.state := .stopped, dev.tc.filmPresent := true, dev.tc.aligned := true }

def pass : PassRecord := { first := 300, last := 2999, speed := 24, number := 1 }

/-- The same with a pass RUNNING. -/
def running : State :=
  { session with dev.tc.state := .running, dev.tc.pass := some pass, dev.tc.watch := .armed }

/-- The same in LIMITING. -/
def limiting : State :=
  { session with
    dev.tc.state := .limiting, dev.tc.pass := some pass, dev.tc.remembered := some .running
    dev.tc.strainDue := some 100 }

/-- The same in RELAXING, the relax timer expired. -/
def relaxing : State :=
  { session with
    dev.tc.state := .relaxing, dev.tc.pass := some pass, dev.tc.remembered := some .running, dev.tc.relaxExpired := true }

/-- The same in FAULT. -/
def faulted (cause : FaultCause) : State :=
  { session with dev.tc.state := .fault, dev.tc.faultCause := some cause, dev.tc.aligned := false }

/-- The session with the transport EMPTY and no film. -/
def idle : State := { session with dev.tc.state := .empty, dev.tc.filmPresent := false, dev.tc.aligned := false }

def defect (id frame : Nat) (kind : DefectKind) (state : DefectState) : Defect :=
  { id, frame, extent := 1, kind, severity := 4, state, origin := .host, detail := 0, found := ⟨0, 0⟩, refused := false }

/-- The session with one defect, and a station that may hold it. -/
def damaged (state : DefectState) (station : StationState) : State :=
  let d := { session.dev with dm.records := [defect 0 10 .tear state] }
  { session with dev := d.setStation 7 ⟨station, 127⟩ }

def order (tag : Byte) (frame : Nat) : Order :=
  { tag, pass := 1, frame, shot := 0, grade := ⟨⟨0, 1024, 0⟩, ⟨0, 1024, 0⟩, ⟨0, 1024, 0⟩⟩, issued := ⟨0, 0⟩, deadline := 250 }

/-- RUNNING with eight orders outstanding. -/
def ordered : State := { running with dev.cu.orders := (List.range 8).map fun n => order (BitVec.ofNat 8 n) (292 + n) }

def reply (k : Kind) : Reply := { tag := 0, kind := k.code, answer := ⟨.ok, []⟩ }

/-- The reset state with its reply queue full. -/
def full : State := { State.reset with link.replies := List.replicate 4 (reply .identify) }

/-! ### One command -/

/-- The state after one command, carried out by a step. -/
def after (c : Instr) (s : State) : State :=
  match step { s with pending := [c] } with
  | .next t => t
  | .fault _ => s
  | .refused _ => s

/-- What the last queued reply says. -/
def said (s : State) : Option Answer := s.link.replies.getLast?.map (·.answer)

def status (s : State) : Option Status := (said s).map (·.status)

/-- An addressed request with tag 7. -/
def via : Envelope := addressed 7

/-! ### The check and the frames (12.3) -/

/-- 12.3: over the nine bytes 0x31 to 0x39 the register ends at 0x29B1. -/
theorem test_check_value : checkOf [0x31, 0x32, 0x33, 0x34, 0x35, 0x36, 0x37, 0x38, 0x39] = 0x29B1 := by decide +kernel

/-- An IDENTIFY frame to unit 0 is answered with part code 340 and tag 9 (R172, R180). -/
theorem test_request_frame_is_answered :
    ((after (.requestFrame (frameChars 0 [9, 1, 0])) State.reset).link.replies.map fun r =>
      (r.tag, r.kind, r.answer.status, r.answer.body.take 2)) = [(9, 1, .ok, [1, 84])] := by decide +kernel

theorem test_wrong_check_is_counted :
    (after (.requestFrame ([⟨true, 0⟩, ⟨false, 9⟩, ⟨false, 1⟩, ⟨false, 0⟩, ⟨false, 0⟩, ⟨false, 0⟩])) State.reset).dev.counters.checkErrors
      = 1 := by decide +kernel

/-- R173: an overrun taken while a reply without the lost flag is sent leaves the flag set for the next reply. -/
theorem test_overrun_in_a_reply :
    let request : HostRequest := ⟨0, 1, [], false⟩
    let s := after (.identify via) { after .replyStart full with link.fifo := List.replicate 4 request }
    (after .replyComplete s).link.lost = true
      ∧ (after .replyComplete (after .replyStart (after .replyComplete s))).link.lost = false
      ∧ (after (.collision 3) s).link.lost = true := by decide +kernel

/-- R184: the reply of unit 5 begins with 21, and its status character carries the lost flag in the top bit. -/
theorem test_reply_frame :
    ((after .replyStart { full with link.unitAddress := 5, link.lost := true }).link.sending.map fun f => f.take 4)
      = some [⟨true, 21⟩, ⟨false, 0⟩, ⟨false, 128⟩, ⟨false, 1⟩] := by decide +kernel

/-- R173: a fifth waiting request is dropped and counted. -/
theorem test_fifo_overrun :
    let s := after (.identify via) { full with link.fifo := List.replicate 4 ⟨0, 1, [], false⟩ }
    s.link.fifo.length = 4 ∧ s.link.lost = true ∧ s.dev.counters.overruns = 1 := by decide +kernel

/-- R175: an unknown kind and a wrong length. -/
theorem test_unknown_kind : status (after (.unknownRequestKind via 0 []) State.reset) = some .unknownKind := by decide +kernel

/-- R178: a frame of another kind on the pipeline port is a bad frame. -/
theorem test_bad_pipeline_frame :
    (after (.frameReport (frameChars 0 [0, 160, 0])) State.reset).dev.counters.badFrames = 1 := by decide +kernel

/-! ### Time (3.3, 3.4) -/

/-- The clock after an ADJUST_CLOCK, with the status. -/
def stepped (seconds micros : Nat) (by_ microsBy : BitVec 32) : Option Status × SuiteTime :=
  let t := after (.adjustClock via by_ microsBy) { State.reset with dev.time.clock := ⟨seconds, micros⟩ }
  (status t, t.dev.time.clock)

/-- The seven rows of the examples of ADJUST_CLOCK in 3.3. -/
theorem test_adjust_clock_examples :
    stepped 1000 200 (-1) 999700 = (some .ok, ⟨999, 999900⟩)
    ∧ stepped 1000 200 0 300 = (some .ok, ⟨1000, 500⟩)
    ∧ stepped 1000 999800 0 400 = (some .ok, ⟨1001, 200⟩)
    ∧ stepped 5 100 (-10) 0 = (some .okClamped, ⟨0, 0⟩)
    ∧ stepped 0 0 (-1) 999999 = (some .okClamped, ⟨0, 0⟩)
    ∧ stepped 4294967290 500000 10 600000 = (some .okClamped, ⟨4294967295, 999999⟩)
    ∧ stepped 1000 200 0 1000000 = (some .badValue, ⟨1000, 200⟩) := by decide +kernel

/-- R42: the trim is brought to -500. -/
theorem test_trim_clamped :
    let s := after (.trimClock via (-32768)) State.reset
    s.dev.time.trim = -500 ∧ status s = some .okClamped := by decide +kernel

/-- R38: at +500 ppm two thousand reference microseconds carry one more; here the last of them. -/
theorem test_trim_carries :
    let s := { State.reset with dev.time.trim := 500, dev.time.remainder := 999500 }
    (after .suiteClockTick s).dev.time.clock = ⟨0, 2⟩ := by decide +kernel

theorem test_run_counter : (after .runCounterTick State.reset).dev.time.runCounter = 1 := by decide +kernel

/-! ### Catalogue and vault (chapters 1 and 2) -/

/-- R3: a class D reel enrolled with passes 255 gets 3, in slot 0, which is outside class D's mask: MISPLACED. -/
theorem test_enrol_in_a_slot :
    let op : EnrolOperands := ⟨7, 0, 100, 0, 3, 0, 0, 255, ⟨0, 0, 0⟩, 2, ⟨0, 0⟩⟩
    let s := after (.enrolReel via op) State.reset
    (s.dev.reels.map fun r => (r.passes, r.state)) = [(3, .shelved 0)] ∧ s.dev.slot 0 = .occupied 7
      ∧ s.dev.nl.notices.map (·.kind) = [.misplaced] := by decide +kernel

/-- R6: slot 128 lies in FROZEN, 1,440 minutes. -/
theorem test_reel_arrived :
    ((after (.reelArrived via 9580) (holding (.outbound 128))).dev.reels.map (·.state)) = [.acclimatizing 86400000] := by
  decide +kernel

/-- R8: a load starts the pitch at shrinkage 125: 75,050 (5.9). -/
theorem test_load_reel :
    ((after (.loadReel via 9580 none) (holding .ready)).dev.pt.map (·.p16)) = some 75050 := by decide +kernel

/-- R10, R29: a forced unload of a reel with open work goes to WORKROOM first, slot 240. -/
theorem test_unload_with_deferred_work :
    let s := after (.unloadReel via 1) { damaged (.queued .p2) .idle with dev.tc.state := .empty }
    (s.dev.reels.map fun r => (r.state, r.deferred)) = [(.returning 240, 1)] := by decide +kernel

/-- R32: a slot that opens goes to the oldest held reel that may use it. -/
theorem test_open_slot_offers :
    let s := { holding .hold with dev := ({ (holding .hold).dev with vault.hold := [9580] } : Device).setSlot 5 .closed }
    (after (.openSlot via 5) s).dev.slot 5 = .reserved 9580 := by decide +kernel

/-- R18: a peak of 150 raises class A to C, with 6 passes at most. -/
theorem test_escalation :
    ((session.dev.escalate 150).reels.map fun r => (r.cls, r.shrinkage, r.passes)) = [(.c, 150, 3)] := by decide +kernel

/-! ### Transport (chapter 4) -/

/-- R58: class A's limit is 160 cN; 161 enters LIMITING, 160 does not. -/
theorem test_limit :
    (after (.tensionSample 161 0) running).dev.tc.state = .limiting
      ∧ (after (.tensionSample 160 160) running).dev.tc.state = .running := by decide +kernel

/-- R58: 150 leaves LIMITING, 151 does not. -/
theorem test_limit_return :
    (after (.tensionSample 150 0) limiting).dev.tc.state = .running
      ∧ (after (.tensionSample 151 0) limiting).dev.tc.state = .limiting := by decide +kernel

/-- R59, R60: the top is 6,000 with the default fault time; 5,970 + 30 trips into RELAXING for 20 s. -/
theorem test_trip :
    let s := after (.tensionSample 161 0) { limiting with dev.tc.integrator := 5970 }
    s.dev.tc.state = .relaxing ∧ s.dev.tc.retries = 1 ∧ s.dev.tc.relaxDue = some 20000 := by decide +kernel

/-- R60: with no retry left the trip is a STRAIN fault. -/
theorem test_trip_without_retry :
    let s := after (.tensionSample 161 0) { limiting with dev.tc.integrator := 5970, dev.tc.retries := 3 }
    s.dev.tc.faultCause = some .strain ∧ s.dev.nl.notices.map (·.kind) = [.transportFault, .passEnded] := by decide +kernel

/-- R50, R51: film starts the threading timer, 5 s; tensions of 20 and 200 pass the check. -/
theorem test_threading :
    (after .filmPresentRises idle).dev.tc.threadingDue = some 5000
      ∧ (after .threadingTimerExpiry { session with
          dev.tc.state := .threading, dev.tc.threadingDue := some 0, dev.tc.feed := 20, dev.tc.takeUp := 200 }).dev.tc.state
        = .stopped := by decide +kernel

/-- R53, R54: a pass from a frame behind the head winds backward; the allowance falls by 1. -/
theorem test_run_pass :
    let s := after (.runPass via ⟨0, 100⟩ ⟨0, 200⟩ 30) session
    s.dev.tc.direction = some .backward ∧ s.dev.tc.target = some 100 ∧ status s = some .okClamped
      ∧ s.dev.reels.map (·.passes) = [2] := by decide +kernel

theorem test_film_break : (after .filmPresentFalls running).dev.tc.faultCause = some .break := by decide +kernel

/-- R64: the default action is STOP; the finding is a splice of severity 5. -/
theorem test_slip :
    let s := { running with dev.tc.watch := .timing, dev.tc.slipDue := some 0, dev.tc.feed := 100, dev.tc.takeUp := 10 }
    let t := after .slipPersistenceExpiry s
    t.dev.tc.faultCause = some .slip ∧ t.dev.dm.records.map (fun r => (r.kind, r.severity, r.detail)) = [(.splice, 5, 90)] := by
  decide +kernel

/-! ### Edges (5.9) -/

/-- What one edge at a distance from p_last leaves: pitch, latest shrinkage, count, and the findings. -/
def edgeAt (s : BitVec 32) : Option (Nat × Nat × Nat) × List (DefectKind × Nat × Nat) × Option FaultCause :=
  let t := after (.perforationEdge s) { running with dev.pt := some { tracker with last := some 0 } }
  (t.dev.pt.map fun p => (p.p16, p.latest, p.count), t.dev.dm.records.map fun r => (r.kind, r.severity, r.detail),
    t.dev.tc.faultCause)

/-- The nine rows of the single-edge table of 5.9 (a gap of m = 2 counts three perforations, of m = 0 one). -/
theorem test_single_edges :
    ([1100, 2000, 4660, 4690, 5500, 6000, 14080, 44554, 44555].map edgeAt)
      = [(some (75050, 0, 0), [], none),
        (some (75050, 0, 0), [(.perfDamage, 2, 0)], none),
        (some (75020, 128, 1), [], none),
        (some (75050, 125, 1), [], none),
        (some (75050, 0, 1), [], none),
        (some (75050, 0, 1), [], none),
        (some (75050, 0, 3), [(.perfMissing, 4, 2)], none),
        (some (75050, 0, 1), [(.perfMissing, 7, 8)], none),
        (some (75050, 0, 2), [(.perfMissing, 7, 9)], some .track)] := by decide +kernel

/-- Step 6 of the run of edges in 5.9: the fourth perforation completes frame 300, and an order is issued for it. -/
theorem test_frame_completed :
    let p := { tracker with last := some 10550, p16 := 75021, count := 3, latest := 128, peak := 128 }
    let t := after (.perforationEdge 15230) { running with dev.pt := some p }
    (t.dev.pt.map fun p => (p.p16, p.latest, p.count, p.head)) = some (75013, 129, 0, 301)
      ∧ t.dev.cu.orders.map (·.frame) = [300] ∧ t.dev.reels.map (·.shrinkage) = [129] := by decide +kernel

/-- R81: a mark that is not set is BAD_VALUE, and an offset of -300 from head 300 names frame 0. -/
theorem test_frame_references :
    session.dev.resolve ⟨2, 0⟩ = .error .badValue ∧ session.dev.resolve ⟨1, -300⟩ = .ok 0 := by
  exact ⟨rfl, rfl⟩

/-! ### Orders and reports (chapter 6) -/

/-- R93, R95: the report of frame 299 retires order 7; a dust count of 400 against 200 is severity 3. -/
theorem test_report :
    let body := reportBody 299 ⟨2000, 2000, 2000⟩ ⟨1, 2, 3⟩ 400 0 0
    let t := after (.frameReport (frameChars 0 (requestData 7 161 body))) ordered
    t.dev.cu.orders.length = 7 ∧ t.dev.dm.records.map (fun r => (r.kind, r.frame, r.severity)) = [(.dust, 299, 3)]
      ∧ t.dev.gu.fade.blue.sum = 3 := by decide +kernel

/-- R92, R184: the frame of an issued order is begun at once: address 0, tag, kind 160, length 32, pass, frame, …;
when it has been sent the sender holds nothing. -/
theorem test_capture_order_frame :
    let s := (running.dev.handFrame 300).pipe
    s.sending.map (fun f => (f.length, f.take 8)) = some (38, [⟨true, 0⟩, ⟨false, 0⟩, ⟨false, 160⟩, ⟨false, 32⟩,
        ⟨false, 0⟩, ⟨false, 1⟩, ⟨false, 1⟩, ⟨false, 44⟩])
      ∧ s.sent.sending = none := by decide +kernel

/-- R99: the order is lost when its deadline is reached, and not before. -/
theorem test_lost_order :
    let late := { ordered with dev.time.runCounter := 250 }
    (after (.reportDeadlineExpiry 3) late).dev.counters.lostOrders = 1
      ∧ (after (.reportDeadlineExpiry 3) ordered).dev.counters.lostOrders = 0 := by decide +kernel

/-- R89, R91: the eighth gap in a row asks for the end of the pass. -/
theorem test_overflow_gap :
    (({ ordered.dev with cu.gaps := 7 } : Device).handFrame 300).tc.pendingEnd = some .pipeline := by decide +kernel

/-! ### Defects, queues, stations (chapters 7 and 8) -/

/-- R107, R110: a tear reported twice is one record, queued at once by its severity. -/
theorem test_add_defect :
    let op : AddDefectOperands := ⟨⟨0, 20⟩, 1, 3, 6, 0⟩
    let s := after (.addDefect via op) (after (.addDefect via op) session)
    s.dev.dm.records.map (·.state) = [.queued .p3] ∧ s.dev.rq.occupancy = 1 := by decide +kernel

theorem test_queue_defect :
    (after (.queueDefect via 0 4) (damaged .found .idle)).dev.rq.queues.p2 = [⟨0, .tear⟩] := by decide +kernel

/-- R126: the most urgent work first. -/
theorem test_take_work :
    let s := damaged (.queued .p2) .idle
    let t := after (.takeWork via 7) { s with dev.rq.queues.p2 := [⟨0, .tear⟩] }
    t.dev.dm.records.map (·.state) = [.assigned .p2 7] ∧ t.dev.rq.queues.p2 = [] := by decide +kernel

theorem test_complete_repaired :
    let t := after (.completeWorkRepaired via 7 0) (damaged (.assigned .p2 7) (.working ⟨0, .tear⟩))
    t.dev.rq.undo = [⟨0, 7, .p2⟩] ∧ t.dev.dm.records.map (·.state) = [.repaired] := by decide +kernel

theorem test_complete_unrepairable :
    ((after (.completeWorkUnrepairable via 7 0) (damaged (.assigned .p2 7) (.working ⟨0, .tear⟩))).dev.dm.records.map
      fun r => (r.state, r.detail)) = [(.waived, 65535)] := by decide +kernel

theorem test_undo_repair :
    let s := damaged .repaired .idle
    (after (.undoRepair via) { s with dev.rq.undo := [⟨0, 7, .p1⟩] }).dev.rq.queues.p1 = [⟨0, .tear⟩] := by decide +kernel

/-! ### Grading (9.2, 9.7) -/

def channels (a b c : ChannelRule) : PerChannel ChannelRule := ⟨a, b, c⟩

/-- A rule of the matching example of R146. -/
def keyed (enabled : Bool) (key : BitVec 32) (length : Nat) : Rule := { Rule.identity with enabled, key, length }

/-- Rule 9 of 9.7. -/
def rule9 : Rule :=
  { keyed true 0x11280000 16 with
    channels := channels ⟨300, 1280, 20, 4⟩ ⟨280, 1024, 0, 0⟩ ⟨320, 1024, 0, -2⟩, fadeMode := .auto, fadeGain := 12 }

/-- The grading state of 9.7 after its publication. -/
def graded : Grading :=
  let rules := State.reset.dev.gu.rules
  let rules := rules.setIfInBounds 2 (keyed true 0x11280000 16)
  let rules := rules.setIfInBounds 4 (keyed true 0x11000000 8)
  let rules := rules.setIfInBounds 9 rule9
  let rules := rules.setIfInBounds 20 (keyed true 0x11280700 24)
  let rules := rules.setIfInBounds 25 (keyed false 0x11280301 32)
  let published (mean : Nat) : FadeChannel := { sum := 0, count := 0, mean, valid := true, extremes := none }
  { shots := [shot 0 0x11280301, shot 600 0x12000000, shot 1200 0x11280705], rules, window := 2
    fade := ⟨published 250, published 150, published 800⟩ }

def grading : State := { session with dev.gu := graded }

/-- The four rows of the matching table of R146. -/
theorem test_winning_rules :
    ([0x11280301, 0x11280705, 0x11630000, 0x12000000].map fun label => (graded.winner label).map (·.1))
      = [some 9, some 20, some 4, none] := by decide +kernel

/-- The grade of frame 104 in 9.7. -/
theorem test_grade_of_frame_104 :
    grading.dev.gradeAt 104 = ⟨⟨230, 1280, 20⟩, ⟨280, 1024, 0⟩, ⟨770, 1024, 0⟩⟩ := by decide +kernel

/-- The output codes of 9.7. -/
theorem test_output_codes :
    ([1631, 1630, 238, 222, 100].map (outputCode ⟨230, 1280, 20⟩)) = [458, 458, 23, 18, 0]
      ∧ outputCode ⟨280, 1024, 0⟩ 1200 = 230 ∧ outputCode ⟨770, 1024, 0⟩ 900 = 33 := by decide +kernel

/-- Steps 2 and 4 of 9.7: the shot at 600, and the publication. -/
theorem test_define_shot :
    let s := { session with dev.gu := { graded with shots := [shot 0 0x11280301, shot 1200 0x11280705] } }
    (after (.defineShot via ⟨0, 600⟩ 0x12000000) s).dev.gu.shots = graded.shots := by decide +kernel
theorem test_publication :
    let f : FadeChannel := { sum := 749, count := 3, mean := 0, valid := false, extremes := none }
    (f.add 4 252).mean = 250 := by decide +kernel

/-- Steps 8 and 9 of 9.7. -/
theorem test_delete_shot :
    let locked := { shot 0 0x11280301 with snapshot := some (grading.dev.gradeAt 104) }
    let s := { grading with dev.gu.shots := locked :: graded.shots.tail }
    status (after (.deleteShot via 1) s) = some .locked
      ∧ (after (.deleteShot via 2) s).dev.gu.shots = [locked, shot 600 0x12000000] := by decide +kernel

/-! ### Notices and counters (chapter 10) -/

theorem test_notices_coalesce :
    (((State.reset.dev.post .reelReady 7 0).post .reelReady 7 3).nl.notices.map fun n => (n.repeats, n.detail)) = [(2, 3)] := by
  decide +kernel
theorem test_mask_bit_15_is_refused :
    status (after (.setAttentionMask via 0x8000) State.reset) = some .badValue := by decide +kernel
theorem test_snapshot_keeps_counts :
    let s := after (.snapshotCounters via 1) { State.reset with dev.counters.overruns := 5 }
    s.dev.snapshot.values.overruns = 5 ∧ s.dev.counters.overruns = 0 := by decide +kernel

/-! ### Witnesses: states and operands that meet an obligation's hypotheses -/

/-- Ready with the reply queue one short of full. -/
def ready : State := { State.reset with link.replies := List.replicate 3 (reply .identify) }

theorem witness_AddressedRequestIsCarriedOutAndAnswered :
    asRequest (.identify (addressed 255)) = some (addressed 255, .identify) ∧ ready.Ready := by
  dsimp only [State.Ready]; decide +kernel

theorem witness_BroadcastRequestIsNotAnswered :
    asRequest (.trimClock ⟨7, true⟩ 0) = some (⟨7, true⟩, .trimClock 0)
      ∧ asRequest (.identify ⟨0, true⟩) = some (⟨0, true⟩, .identify) ∧ Kind.ofCode 0 = none ∧ Kind.ofCode 255 = none
      ∧ ready.Ready := by
  dsimp only [State.Ready]; decide +kernel

theorem witness_RequestsWaitAndUnknownOnesAreAnswered :
    (asRequest (.identify via) = some (via, .identify) ∧ 4 ≤ full.link.replies.length
      ∧ (List.replicate 4 (⟨0, 1, [], false⟩ : HostRequest)).length ≤ 4)
    ∧ Kind.ofCode 0 = none ∧ ready.Ready ∧ ready.link.listening = true
    ∧ ∀ q : Request, q.kind = .identify → q.body.length ≠ 1 ∧ q.body.length ≠ 240 := by
  refine ⟨by decide +kernel, by decide, by dsimp only [State.Ready]; decide +kernel, by decide, ?_⟩
  intro q h
  cases q <;> cases h
  decide

theorem witness_RequestFrameIsReadBack : ready.Ready ∧ ready.link.listening = true := by
  dsimp only [State.Ready]; decide +kernel

theorem witness_BadFramesAndLineErrorsAreDiscarded :
    (be16 (checkOf (requestData 0 1 [])) ≠ [0, 0] ∧ (List.replicate 240 (0 : Byte)).length ≤ 240)
    ∧ 240 < (241 : Byte).toNat ∧ State.reset.link.listening = true
    ∧ ((1 : Byte) ≠ State.reset.link.unitAddress.setWidth 8 ∧ (1 : Byte) ≠ 15 ∧ (16 : Byte) ≠ 15)
    ∧ (({ State.reset with link.parser := .receive true [0] } : State).link.listening = true)
    ∧ State.reset.link.parser = .hunt := by decide +kernel

/-- A unit that sends the oldest of its four replies. -/
def sending : State := after .replyStart full

/-- Three replies queued and one request waiting. -/
def waiting (q : HostRequest) : State := { ready with link.fifo := [q] }

theorem witness_RepliesLeaveOldestFirst :
    (full.link.listening = true ∧ full.link.replies = reply .identify :: List.replicate 3 (reply .identify))
    ∧ (∃ frame, sending.link.sending = some frame ∧ 0 < frame.length ∧ 2 < frame.length ∧ frame.length = 7)
    ∧ (State.reset.link.replies = [] ∧ State.reset.link.sending = none)
    ∧ (State.reset.link.fifo = [] ∧ 4 ≤ full.link.replies.length)
    ∧ ((waiting ⟨7, 1, [], false⟩).link.replies.length < 4 ∧ Request.identify.kind.code = 1 ∧ Request.identify.body = [])
    ∧ (waiting ⟨7, Kind.restartSuite.code, Request.restartSuite.body, true⟩).link.fifo
      = { tag := 7, kind := Request.restartSuite.kind.code, body := Request.restartSuite.body, broadcast := true } :: []
    ∧ ((waiting ⟨7, 255, [], true⟩).link.fifo = { tag := 7, kind := 255, body := [], broadcast := true } :: []
      ∧ Kind.ofCode 255 = none)
    ∧ (waiting ⟨7, Kind.identify.code, [0], false⟩).link.fifo
      = { tag := 7, kind := Kind.identify.code, body := [0], broadcast := false } :: []
    ∧ ∀ q : Request, q.kind = .identify → q.body.length ≠ ([0] : List Byte).length := by
  refine ⟨by decide +kernel, ⟨_, rfl, by decide +kernel⟩, by decide, by decide, by decide, rfl, by decide, rfl, ?_⟩
  intro q h
  cases q <;> cases h
  decide

/-- RUNNING with the CAPTURE_ORDER frame of order 0 in progress and orders waiting behind it. -/
def handing (orders : List Order) : State :=
  { running with dev.pipe.sending := some (captureOrderChars (order 0 292)), dev.pipe.waiting := orders }

theorem witness_PipelineFramesAreReadOrDiscarded :
    State.reset.dev.pipe.lineLow = false
    ∧ (be16 (checkOf (requestData 0 161 [])) ≠ [0, 0] ∧ (160 : Byte) ≠ 161 ∧ (List.replicate 18 (0 : Byte)).length ≠ 19
      ∧ (List.replicate 20 (0 : Byte)).length ≠ 19 ∧ (List.replicate 240 (0 : Byte)).length ≤ 240)
    ∧ ({ State.reset with dev.pipe.parser := .receive false [] } : State).dev.pipe.parser = .receive false []
    ∧ State.reset.dev.pipe.parser = .hunt ∧ (1 : Byte) ≠ 0 ∧ (255 : Byte) ≠ 0 ∧ 240 < (241 : Byte).toNat
    ∧ State.reset.dev.pipe.sending = none
    ∧ ((handing []).dev.pipe.sending.isSome = true ∧ (handing []).dev.pipe.waiting = [])
    ∧ (handing [order 1 293]).dev.pipe.waiting = order 1 293 :: [] := by decide +kernel

theorem witness_RunCounterCountsMilliseconds :
    (State.reset.dev.time.runCounter < 2 ^ 48 - 1 ∧ 2 ^ 48 - 2 < 2 ^ 48 - 1)
    ∧ 2 ^ 48 - 1 ≤ ({ State.reset with dev.time.runCounter := 2 ^ 48 - 1 } : State).dev.time.runCounter
    ∧ Instr.suiteClockTick ≠ .runCounterTick ∧ (∀ address rate, Instr.suiteClockTick ≠ .fullReset address rate)
    ∧ exec .suiteClockTick State.reset = .next { State.reset with dev.time := State.reset.dev.time.micro } :=
  ⟨by decide +kernel, by decide +kernel, by decide, (fun _ _ h => Instr.noConfusion h), rfl⟩

/-- A clock one microsecond short of its greatest value, at the lowest trim. -/
def lateClock : TimeBase := { clock := ⟨4294967295, 999998⟩, trim := -500, remainder := 999999, runCounter := 0 }

theorem witness_SuiteClockRunsAtTrimmedRate :
    (lateClock.clock.micros < 1000000 ∧ lateClock.remainder < 1000000 ∧ -500 ≤ lateClock.trim ∧ lateClock.trim ≤ 500
      ∧ 4294967295 * 1000000 + 999998 < 4294967295 * 1000000 + 999999)
    ∧ ({ State.reset with dev.time.trim := 500 } : State).dev.time.trim ≤ 500
    ∧ (0 + 2000 * ((1000000 + 500 : Int)).toNat) / 1000000 < 4294967295 * 1000000 + 999999
    ∧ ({ State.reset with dev.time.clock := ⟨4294967295, 999999⟩ } : State).dev.time.clock = ⟨4294967295, 999999⟩ := by
  decide +kernel

theorem witness_AdjustAndTrimSetTheClock :
    1000000 ≤ (1000000 : BitVec 32).toNat ∧ (999999 : BitVec 32).toNat < 1000000 := by decide

/-- The operands of ENROL_REEL with every field at an accepted end of its range. -/
def enrolment : EnrolOperands := ⟨0xFFFFFFFF, 1, 0xFFFF, 0, 3, 1, 999, 15, ⟨4095, 4096, 65535⟩, 3, ⟨0, 255⟩⟩

theorem witness_EnrolReelAddsRecord :
    (∀ op ∈ [{ enrolment with reelId := 0 }, { enrolment with length := 0 }, { enrolment with shrinkage := 1000 },
        { enrolment with gauge := 2 }, { enrolment with cls := 4 }, { enrolment with permit := 2 },
        { enrolment with home := 4 }, { enrolment with passes := 16 }, { enrolment with passes := 254 },
        { enrolment with location := ⟨0, 256⟩ }, { enrolment with location := ⟨1, 4⟩ },
        { enrolment with location := ⟨2, 0⟩ }],
      op.reelId = 0 ∨ op.length = 0 ∨ 999 < op.shrinkage.toNat ∨ Gauge.ofCode op.gauge.toNat = none
      ∨ DecayClass.ofCode op.cls.toNat = none ∨ yesNo op.permit = none ∨ Zone.ofCode op.home.toNat = none
      ∨ (15 < op.passes.toNat ∧ op.passes.toNat < 255)
      ∨ (op.location.kind = 0 ∧ 255 < op.location.value.toNat)
      ∨ (op.location.kind = 1 ∧ Zone.ofCode op.location.value.toNat = none) ∨ 1 < op.location.kind.toNat)
    ∧ (enrolment.reelId ≠ 0 ∧ enrolment.length ≠ 0 ∧ enrolment.shrinkage.toNat ≤ 999
      ∧ Gauge.ofCode enrolment.gauge.toNat = some .g16 ∧ DecayClass.ofCode enrolment.cls.toNat = some .d
      ∧ yesNo enrolment.permit = some true ∧ Zone.ofCode enrolment.home.toNat = some .workroom
      ∧ (enrolment.passes.toNat ≤ 15 ∨ enrolment.passes = 255))
    ∧ (enrolment.location = ⟨0, BitVec.ofNat 16 255⟩
      ∧ ({ enrolment with location := ⟨1, 3⟩ } : EnrolOperands).location = ⟨1, BitVec.ofNat 16 Zone.workroom.code⟩)
    ∧ ((∃ r ∈ (holding .ready).dev.reels, r.id = 9580) ∧ (∀ r ∈ State.reset.dev.reels, r.id ≠ 9580)
      ∧ 256 ≤ (List.replicate 256 (reel .ready)).length ∧ (List.replicate 255 (reel .ready)).length < 256
      ∧ State.reset.dev.slot 255 = .free ∧ (State.reset.dev.setSlot 255 .closed).slot 255 ≠ .free) := by decide +kernel

theorem witness_reel_is_named (state : ReelState) : (holding state).dev.Names 9580 (reel state) := by
  refine ⟨by decide, ?_⟩
  simp [holding, Device.findReel, reel]

/-- In each state of a reel: the clauses of WITHDRAW_REEL, REEL_PLACED and RECALL_REEL. -/
theorem witness_WithdrawnPlacedAndRecalledReels :
    (holding (.shelved 0)).dev.Names 9580 (reel (.shelved 0)) ∧ (holding .ready).dev.Names 9580 (reel .ready)
    ∧ (holding .hold).dev.Names 9580 (reel .hold) ∧ (holding .loaded).dev.Names 9580 (reel .loaded)
    ∧ (holding (.returning 255)).dev.Names 9580 (reel (.returning 255))
    ∧ 255 < (256 : BitVec 16).toNat ∧ (255 : BitVec 16).toNat ≤ 255 ∧ (reel (.returning 255)).state = .returning (255 : BitVec 16).toNat
    ∧ (0 ≠ 255 ∧ (holding (.returning 255)).dev.slot 0 = .free
      ∧ (holding (.returning 255)).dev.allowed (reel .ready).cls (zoneOf 0) = true)
    ∧ ¬ ((0 < (reel .ready).deferred ∧ zoneOf 240 = .workroom) ∨ State.reset.dev.allowed (reel .ready).cls (zoneOf 240) = true) :=
  ⟨witness_reel_is_named _, witness_reel_is_named _, witness_reel_is_named _, witness_reel_is_named _,
    witness_reel_is_named _, by decide +kernel⟩

theorem witness_RequestReelSendsShelvedReelOut :
    (holding (.shelved 255)).dev.Names 9580 (reel (.shelved 255)) ∧ (holding (.outbound 0)).dev.Names 9580 (reel (.outbound 0))
    ∧ ∀ n, (reel (.outbound 0)).state ≠ .shelved n :=
  ⟨witness_reel_is_named _, witness_reel_is_named _, by intro n h; cases h⟩

theorem witness_ArrivedReelAcclimatizes :
    ((holding (.outbound 127)).dev.Names 9580 (reel (.outbound 127)) ∧ (holding .ready).dev.Names 9580 (reel .ready)
      ∧ ∀ n, (reel .ready).state ≠ .outbound n)
    ∧ ((holding (.acclimatizing 0)).dev.findReel (9580 : BitVec 32).toNat = some (reel (.acclimatizing 0))
      ∧ 0 ≤ (holding (.acclimatizing 0)).dev.time.runCounter ∧ (holding (.acclimatizing 1)).dev.time.runCounter < 1) :=
  ⟨⟨witness_reel_is_named _, witness_reel_is_named _, by intro n h; cases h⟩, by decide +kernel⟩

theorem witness_LoadReelStartsSession :
    (holding .ready).dev.Names 9580 (reel .ready) ∧ (reel .ready).length ≤ (3000 : BitVec 16).toNat
    ∧ (2999 : BitVec 16).toNat < (reel .ready).length ∧ (holding .ready).dev.loadedReel = none
    ∧ (session.dev.loadedReel.isSome ∧ (reel .hold).state ≠ .ready) :=
  ⟨witness_reel_is_named _, by decide +kernel⟩

theorem witness_UnloadReelEndsTheSession :
    (idle.dev.loadedReel = some (reel .loaded) ∧ idle.dev.findReel (reel .loaded).id = some (reel .loaded)
      ∧ idle.dev.tc.state = .empty ∧ session.dev.tc.state ≠ .empty)
    ∧ (idle.dev.gu.shots.countP (·.snapshot.isNone) = 1
      ∧ [{ shot 0 0 with snapshot := some (order 0 0).grade }].countP (·.snapshot.isNone) = 0)
    ∧ idle.dev.returnSlot (reel .loaded) = some 0
    ∧ ({ idle.dev with vault.slots := Vector.replicate 256 .closed } : Device).returnSlot (reel .loaded) = none
    ∧ 1 < (2 : Byte).toNat ∧ (1 : Byte).toNat ≤ 1 ∧ State.reset.dev.loadedReel = none := by decide +kernel

theorem witness_ConditionIsSetAndEscalated :
    session.dev.Names 9580 (reel .loaded)
    ∧ (DecayClass.ofCode 4 = none ∧ yesNo 2 = none ∧ DecayClass.ofCode 3 = some .d ∧ yesNo 1 = some true)
    ∧ session.dev.loadedReel = some (reel .loaded) ∧ max (reel .loaded).shrinkage 149 < 150
    ∧ 150 ≤ max (reel .loaded).shrinkage 150 ∧ max (reel .loaded).shrinkage 249 < 250
    ∧ 250 ≤ max (reel .loaded).shrinkage 250 :=
  ⟨⟨by decide, by decide +kernel⟩, by decide +kernel⟩

theorem witness_GrantPassesAddsToFifteen : (holding .hold).dev.Names 9580 (reel .hold) := witness_reel_is_named _

theorem witness_NamedThingsAreCheckedFirst :
    ((9580 : BitVec 32) ≠ 0 ∧ ∀ r ∈ State.reset.dev.reels, r.id ≠ (9580 : BitVec 32).toNat)
    ∧ 255 < (256 : BitVec 16).toNat ∧ 3 < (4 : Byte).toNat ∧ State.reset.dev.loadedReel = none
    ∧ session.dev.loadedReel.isSome ∧ 1023 < (1024 : BitVec 16).toNat ∧ 511 < (512 : BitVec 16).toNat
    ∧ ((1023 : BitVec 16).toNat ≤ 1023 ∧ ¬ ∃ r ∈ session.dev.dm.records, r.id = (1023 : BitVec 16).toNat)
    ∧ ((511 : BitVec 16).toNat ≤ 511 ∧ ¬ (511 : BitVec 16).toNat < session.dev.gu.shots.length) := by decide +kernel

/-- The reel in HOLD and slot 255, in WORKROOM, which class A may not use, or slot 0, which it may. -/
def queued (slot : Nat) : State :=
  { State.reset with dev := ({ (holding .hold).dev with vault.hold := [9580] } : Device).setSlot slot .closed }

theorem witness_SlotsAndZonesAreSet :
    ((255 : BitVec 16).toNat ≤ 255 ∧ State.reset.dev.slot 255 = .free ∧ (queued 255).dev.slot 255 = .closed)
    ∧ ((queued 255).dev.findReel 9580 = some (reel .hold)
      ∧ ¬ ((0 < (reel .hold).deferred ∧ zoneOf 255 = .workroom) ∨ (queued 255).dev.allowed (reel .hold).cls (zoneOf 255) = true))
    ∧ ((queued 0).dev.vault.hold = [] ++ 9580 :: [] ∧ (queued 0).dev.findReel 9580 = some (reel .hold)
      ∧ (queued 0).dev.allowed (reel .hold).cls (zoneOf 0) = true)
    ∧ 3 < (4 : Byte).toNat ∧ 15 < (16 : Byte).toNat ∧ (15 : Byte).toNat ≤ 15
    ∧ ((holding .ready).dev.reels.map (·.id)).Nodup := by decide +kernel

theorem witness_SampleWhileMovingOrAtRest :
    (State.reset.dev.loadedReel = none ∧ running.dev.loadedReel = some (reel .loaded))
    ∧ running.dev.tc.state = .running ∧ running.dev.limit = some 160
    ∧ (160 : BitVec 12).toNat ≤ 160 ∧ 160 < max (161 : BitVec 12).toNat 0
    ∧ running.dev.tc.integrator + 30 < 30 * running.dev.tc.settings.faultTime
    ∧ session.dev.tc.state = .stopped ∧ relaxing.dev.tc.state = .relaxing ∧ 30 ≤ (30 : BitVec 12).toNat
    ∧ relaxing.dev.tc.relaxExpired = true ∧ (29 : BitVec 12).toNat < 30 ∧ relaxing.dev.tc.remembered = some .running := by
  decide +kernel

theorem witness_SampleWhileLimiting :
    limiting.dev.tc.state = .limiting ∧ limiting.dev.limit = some 160 ∧ limiting.dev.tc.remembered = some .running
    ∧ (150 : BitVec 12).toNat + 10 ≤ 160 ∧ 160 < max (151 : BitVec 12).toNat 0 + 10
    ∧ 5969 + 30 < 30 * limiting.dev.tc.settings.faultTime ∧ 30 * limiting.dev.tc.settings.faultTime ≤ 5970 + 30
    ∧ (limiting.dev.tc.settings.retryPolicy = .count 3 ∧ limiting.dev.tc.retries < 3) ∧ limiting.dev.tc.pendingEnd = none
    ∧ ({ limiting with dev.tc.pendingEnd := some .hostStop } : State).dev.tc.pendingEnd = some .hostStop
    ∧ ¬ ({ limiting with dev.tc.retries := 3 } : State).dev.tc.retries < 3 := by decide +kernel

theorem witness_FilmPresentLineAndFaultEntry :
    (idle.dev.tc.filmPresent = false ∧ idle.dev.tc.state = .empty ∧ idle.dev.loadedReel.isSome)
    ∧ (State.reset.dev.tc.state = .empty ∧ State.reset.dev.loadedReel = none)
    ∧ (session.dev.tc.filmPresent = true ∧ session.dev.tc.state = .stopped ∧ (faulted .thread).dev.tc.state = .fault
      ∧ running.dev.tc.state = .running ∧ relaxing.dev.tc.state = .relaxing)
    ∧ (({ session with dev.tc.state := .threading } : State).dev.tc.state = .threading
      ∧ session.dev.loadedReel = some (reel .loaded) ∧ session.dev.pt = some tracker)
    ∧ session.dev.tc.pass = none ∧ running.dev.tc.pass.isSome := by decide +kernel

theorem witness_TransportTimersExpire :
    session.dev.loadedReel = some (reel .loaded) ∧ limiting.dev.loadedReel = some (reel .loaded)
    ∧ (({ session with dev.tc.state := .threading, dev.tc.threadingDue := some 0 } : State).dev.tc.threadingDue = some 0
      ∧ 0 ≤ session.dev.time.runCounter)
    ∧ (({ relaxing with dev.tc.relaxDue := some 0 } : State).dev.tc.relaxDue = some 0
      ∧ relaxing.dev.tc.state = .relaxing)
    ∧ (limiting.dev.tc.state = .limiting ∧ limiting.dev.tc.strainDue = some 100 ∧ limiting.dev.pt.map (·.head) = some 300
      ∧ limiting.dev.time.runCounter < 100
      ∧ 100 ≤ ({ limiting with dev.time.runCounter := 100 } : State).dev.time.runCounter)
    ∧ (({ running with dev.tc.watch := .timing, dev.tc.slipDue := some 0 } : State).dev.tc.watch = .timing
      ∧ running.dev.pt.map (·.head) = some 300)
    ∧ (∀ due, session.dev.tc.threadingDue = some due → session.dev.time.runCounter < due) :=
  ⟨by decide +kernel, by decide +kernel, by decide +kernel, by decide +kernel, by decide +kernel, by decide +kernel,
    by intro _ h; cases h⟩

theorem witness_RunPassStartsPass :
    (running.dev.tc.state ≠ .stopped ∧ session.dev.tc.state = .stopped)
    ∧ session.dev.resolve ⟨4, 0⟩ = .error .badValue
    ∧ session.dev.resolve ⟨0, 300⟩ = .ok 300 ∧ session.dev.resolve ⟨0, 299⟩ = .ok 299
    ∧ session.dev.loadedReel = some (reel .loaded) ∧ session.dev.pt = some tracker
    ∧ session.dev.tc.aligned = true
    ∧ (({ session with dev.tc.aligned := false } : State).dev.tc.aligned = false ∧ tracker.head ≠ 0)
    ∧ (1 ≤ (reel .loaded).passes ∧ (reel .loaded).cls ≠ .d)
    ∧ ({ reel .loaded with passes := 0 } : Reel).passes = 0 :=
  ⟨by decide +kernel, rfl, rfl, rfl, by decide +kernel, by decide +kernel, by decide, by decide, by decide, by decide⟩

theorem witness_SetTransportReplacesSettings :
    RetryPolicy.ofCode 9 = none ∧ SlipAction.ofCode 2 = none ∧ RetryPolicy.ofCode 7 = some (.count 7)
    ∧ RetryPolicy.ofCode 8 = some .unlimited ∧ SlipAction.ofCode 1 = some .report := by decide +kernel

theorem witness_StopAndReleaseMoveTheTransport :
    (State.reset.dev.tc.state = .empty ∧ session.dev.tc.state = .stopped ∧ running.dev.tc.state = .running
      ∧ limiting.dev.tc.state = .limiting ∧ relaxing.dev.tc.state = .relaxing)
    ∧ ((faulted .strain).dev.tc.state = .fault
      ∧ ({ faulted .strain with dev.tc.filmPresent := false } : State).dev.tc.filmPresent = false)
    ∧ ((faulted .slip).dev.tc.filmPresent = true
      ∧ ((faulted .slip).dev.tc.faultCause = some .slip
        ∧ 30 ≤ ({ faulted .slip with dev.tc.feed := 30 } : State).dev.tc.feed)
      ∧ ¬ (30 ≤ ({ faulted .slip with dev.tc.feed := 29 } : State).dev.tc.feed ∨ 30 ≤ (faulted .slip).dev.tc.takeUp))
    ∧ (faulted .thread).dev.tc.faultCause = some .thread ∧ (faulted .break).dev.tc.faultCause ≠ some .thread := by
  decide +kernel

/-- The same reel winding backward to frame 100, its alignment lost. -/
def winding (count : Nat) : State :=
  { session with
    dev.tc.state := .winding, dev.tc.pass := some { pass with first := 100 }, dev.tc.aligned := false
    dev.tc.direction := some .backward, dev.tc.target := some 100, dev.tc.watch := .armed
    dev.pt := some { tracker with count, head := 100 } }

theorem witness_PerforationEdgeIsClassified :
    State.reset.dev.pt = none ∧ session.dev.tc.state = .stopped ∧ session.dev.pt = some tracker
    ∧ ((winding 0).dev.tc.state = .winding ∧ (winding 0).dev.tc.direction = some .backward)
    ∧ (running.dev.tc.state = .running ∧ tracker.last = none)
    ∧ ((0 - 0 : BitVec 32).toInt ≤ 0 ∧ 4 * ((1172 : BitVec 32) - 0).toInt < (4690 : Nat))
    ∧ (((4690 : Nat) : Int) ≤ 4 * ((1173 : BitVec 32) - 0).toInt ∧ 4 * ((3517 : BitVec 32) - 0).toInt < 3 * (4690 : Nat))
    ∧ (3 * ((4690 : Nat) : Int) ≤ 4 * ((3518 : BitVec 32) - 0).toInt ∧ 4 * ((5862 : BitVec 32) - 0).toInt ≤ 5 * (4690 : Nat))
    ∧ (¬ (15 * 4690 ≤ 16 * 4396) ∧ 15 * 4690 ≤ 16 * 4397 ∧ 16 * 4983 ≤ 17 * 4690 ∧ ¬ (16 * 4984 ≤ 17 * 4690))
    ∧ 5 * ((4690 : Nat) : Int) < 4 * ((5863 : BitVec 32) - 0).toInt ∧ tracker.p16 / 16 = 4690 := by decide +kernel

theorem witness_FramesCompleteAndEndLegsAndPasses :
    running.dev.pt = some tracker
    ∧ (({ tracker with count := 2 } : Tracker).count + 1 < 4 ∧ 4 ≤ ({ tracker with count := 3 } : Tracker).count + 1)
    ∧ (({ tracker with head := 3000 } : Tracker).length ≤ 3000 ∧ 2999 < tracker.length)
    ∧ ({ tracker with head := 0 } : Tracker).head = 0 ∧ 0 < ({ tracker with head := 1 } : Tracker).head
    ∧ (running.dev.tc.state = .running ∧ (winding 0).dev.tc.state = .winding)
    ∧ (running.dev.tc.pass = some pass ∧ running.dev.loadedReel = some (reel .loaded) ∧ running.dev.tc.target ≠ some 300)
    ∧ ((winding 0).dev.tc.target = some ({ tracker with count := 0, head := 100 } : Tracker).head
      ∧ (winding 0).dev.tc.direction = some .backward ∧ ({ pass with first := 100 } : PassRecord).first = 100
      ∧ pass.first ≠ 100)
    ∧ ({ winding 0 with dev.tc.direction := some .forward } : State).dev.tc.direction = some .forward
    ∧ (session.dev.tc.pass = none ∧ session.dev.tc.state = .stopped ∧ (faulted .track).dev.tc.pass = none
      ∧ (faulted .track).dev.tc.state = .fault) := by decide +kernel

theorem witness_FrameReferencesHeadAndMarks :
    State.reset.dev.loadedReel = none ∧ (session.dev.loadedReel = some (reel .loaded) ∧ session.dev.pt = some tracker)
    ∧ 3 < (4 : Byte).toNat ∧ (tracker.markA = none ∧ tracker.markB = none)
    ∧ ((300 : Int) + (2699 : BitVec 32).toInt = (2999 : Nat) ∧ 2999 < (reel .loaded).length)
    ∧ ((300 : Int) + (-301 : BitVec 32).toInt < 0 ∧ ((reel .loaded).length : Int) ≤ 300 + (2700 : BitVec 32).toInt)
    ∧ ({ tracker with markB := some 65534 } : Tracker).markB = some 65534
    ∧ running.dev.tc.state ≠ .stopped ∧ session.dev.tc.state = .stopped ∧ 1 < (2 : Byte).toNat ∧ (1 : Byte).toNat ≤ 1
    ∧ session.dev.resolve ⟨4, 0⟩ = .error .badValue ∧ session.dev.resolve ⟨0, 2999⟩ = .ok 2999 :=
  ⟨by decide +kernel, by decide +kernel, by decide, by decide, by decide, by decide, by decide, by decide +kernel,
    by decide +kernel, by decide, by decide, rfl, rfl⟩

theorem witness_OrdersAreIssuedAndLost :
    (running.dev.cu.orders.length < 8 ∧ running.dev.tc.pass = some pass
      ∧ ∀ o ∈ running.dev.cu.orders, o.tag ≠ running.dev.cu.tagCounter + BitVec.ofNat 8 0)
    ∧ (running.dev.pipe.sending = none ∧ running.dev.pipe.waiting = [] ∧ (handing [order 1 293]).dev.pipe.sending.isSome)
    ∧ (let held := [order 0 298, order 1 299]
       (∀ j < 2, ∃ o ∈ held, o.tag = (0 : Byte) + BitVec.ofNat 8 j) ∧ ∀ o ∈ held, o.tag ≠ (0 : Byte) + BitVec.ofNat 8 2)
    ∧ (8 ≤ ordered.dev.cu.orders.length ∧ ordered.dev.cu.gaps < 7
      ∧ 7 ≤ ({ ordered with dev.cu.gaps := 7 } : State).dev.cu.gaps)
    ∧ (ordered.dev.loadedReel = some (reel .loaded)
      ∧ ordered.dev.cu.orders = [order 0 292] ++ order 1 293 :: (ordered.dev.cu.orders.drop 2)
      ∧ (∀ x ∈ [order 0 292], x.tag ≠ 1) ∧ (order 1 293).tag = 1)
    ∧ (ordered.dev.time.runCounter < (order 1 293).deadline
      ∧ (order 1 293).deadline ≤ ({ ordered with dev.time.runCounter := 250 } : State).dev.time.runCounter)
    ∧ ∀ x ∈ ordered.dev.cu.orders, x.tag ≠ 8 := by decide +kernel

def dusty : FrameReport :=
  { tag := 1, frame := 293, mean := ⟨2000, 0, 4095⟩, base := ⟨1, 2, 3⟩, dust := 200, scratch := 99, exposureClip := false
    focusFail := false }

theorem witness_ReportRetiresItsOrder :
    (∀ o ∈ ordered.dev.cu.orders, ¬ (o.tag = 1 ∧ o.frame = 292))
    ∧ (ordered.dev.cu.orders = [order 0 292] ++ order 1 293 :: (ordered.dev.cu.orders.drop 2)
      ∧ (∀ x ∈ [order 0 292], ¬ (x.tag = dusty.tag ∧ x.frame = dusty.frame)) ∧ (order 1 293).tag = dusty.tag
      ∧ (order 1 293).frame = dusty.frame)
    ∧ ordered.dev.cu.dustLimit ≤ dusty.dust ∧ ¬ ordered.dev.cu.scratchLimit ≤ dusty.scratch
    ∧ (outputCode ⟨0, 1024, 0⟩ 125 ≤ 31 ∧ 992 ≤ outputCode ⟨0, 1024, 0⟩ 4095 ∧ outputCode ⟨0, 1024, 0⟩ 2000 = 500) := by
  decide +kernel

def tear (frame : Nat) : Finding := { kind := .tear, frame, severity := 7, detail := 1, origin := .host }

theorem witness_FindingsMergeExtendOrAppend :
    State.reset.dev.loadedReel = none ∧ session.dev.loadedReel = some (reel .loaded)
    ∧ ((reel .loaded).length ≤ (tear 3000).frame ∧ (tear 2999).frame < (reel .loaded).length)
    ∧ (let found := defect 0 10 .tear .found
       (damaged .found .idle).dev.dm.records = [] ++ found :: [] ∧ found.kind = (tear 10).kind ∧ found.state = .found
         ∧ found.frame ≤ 10 ∧ 10 < found.frame + found.extent)
    ∧ (let dust := { defect 0 10 .dust (.queued .p1) with extent := 254 }
       dust.state = .queued .p1 ∧ 1 ≤ 264 ∧ dust.frame + dust.extent = 264 ∧ dust.extent < 255)
    ∧ (∀ y ∈ session.dev.dm.records, y.kind ≠ .tear) ∧ session.dev.dm.records.length < 1024
    ∧ 1024 ≤ (List.replicate 1024 (defect 0 10 .dust .waived)).length := by decide +kernel

theorem witness_EnqueueAcceptsBelowItsLevel :
    (159 < 160 ∧ session.dev.rq.queues.p0.length < 160
      ∧ 160 ≤ (List.replicate 160 (⟨0, .tear⟩ : Entry)).length ∧ 192 ≤ (List.replicate 192 (⟨0, .tear⟩ : Entry)).length)
    ∧ (damaged .found .idle).dev.findDefect 0 = some (defect 0 10 .tear .found)
    ∧ ((defect 0 10 .tear .found).state = .found ∧ session.dev.dm.thresholds.get .tear < 8
      ∧ session.dev.dm.thresholds.get .tear ≤ 4)
    ∧ ¬ (session.dev.dm.thresholds.get .dust ≤ 4) ∧ ¬ (session.dev.dm.thresholds.get .scanGap < 8) := by decide +kernel

def addition : AddDefectOperands := ⟨⟨0, 2745⟩, 255, 7, 7, 65535⟩

theorem witness_AddDefectRecordsRun :
    State.reset.dev.loadedReel = none ∧ session.dev.loadedReel = some (reel .loaded)
    ∧ (DefectKind.ofCode 8 = none ∧ 7 < (8 : Byte).toNat ∧ ({ addition with count := 0 } : AddDefectOperands).count = 0)
    ∧ (DefectKind.ofCode addition.kind.toNat = some .scanGap ∧ addition.severity.toNat ≤ 7 ∧ addition.count ≠ 0)
    ∧ session.dev.resolve ⟨0, 3000⟩ = .error .badValue
    ∧ session.dev.resolve addition.ref = .ok 2745 ∧ 2745 + addition.count.toNat ≤ (reel .loaded).length
    ∧ session.dev.resolve ⟨0, 2746⟩ = .ok 2746 ∧ (reel .loaded).length < 2746 + addition.count.toNat
    ∧ ((session.dev.addRun (tear 10) 1).2.head? = some (some 0) ∧ (session.dev.addRun (tear 10) 1).2.getLast? = some (some 0)) :=
  ⟨by decide +kernel, by decide +kernel, by decide, by decide, rfl, rfl, by decide, rfl, by decide, by decide +kernel⟩

theorem witness_defect_is_named (state : DefectState) (station : StationState) :
    (damaged state station).dev.NamesDefect 0 (defect 0 10 .tear state) := by
  refine ⟨by rfl, by decide, ?_⟩
  simp [damaged, Device.setStation, Device.findDefect, defect]

theorem witness_DefectRequestsFollowTheirTables :
    (damaged .found .idle).dev.NamesDefect 0 (defect 0 10 .tear .found)
    ∧ (damaged (.queued .p3) .idle).dev.NamesDefect 0 (defect 0 10 .tear (.queued .p3))
    ∧ (damaged (.assigned .p0 7) (.working ⟨0, .tear⟩)).dev.NamesDefect 0 (defect 0 10 .tear (.assigned .p0 7))
    ∧ (damaged .repaired .idle).dev.NamesDefect 0 (defect 0 10 .tear .repaired)
    ∧ (4 < (5 : Byte).toNat ∧ (4 : Byte).toNat ≤ 4 ∧ (3 : Byte).toNat = Priority.p3.code ∧ 3 < (4 : Byte).toNat)
    ∧ ((defect 0 10 .scanGap .found).kind = .scanGap ∧ (defect 0 10 .tear .found).kind ≠ .scanGap)
    ∧ (7 < (8 : Byte).toNat ∧ 8 < (9 : Byte).toNat ∧ (7 : Byte).toNat < 8)
    ∧ (DefectKind.ofCode 7 = some .scanGap ∧ (8 : Byte).toNat ≤ 8 ∧ DefectKind.ofCode 0 = some .perfDamage) :=
  ⟨witness_defect_is_named _ _, witness_defect_is_named _ _, witness_defect_is_named _ _, witness_defect_is_named _ _,
    by decide⟩

theorem witness_StationsTakeWork :
    (7 < 8 ∧ 7 < (8 : Byte).toNat ∧ 1 < (2 : Byte).toNat ∧ 127 < (128 : Byte).toNat ∧ (127 : Byte).toNat ≤ 127)
    ∧ (((damaged (.assigned .p2 7) (.working ⟨0, .tear⟩)).dev.station 7).state = .working ⟨0, .tear⟩
      ∧ (damaged (.assigned .p2 7) (.working ⟨0, .tear⟩)).dev.findDefect 0 = some (defect 0 10 .tear (.assigned .p2 7)))
    ∧ ((damaged .found .idle).dev.station 7).state = .idle ∧ (session.dev.station 7).state = .offline
    ∧ (∀ e ∈ (damaged .found .idle).dev.rq.queues.p3, ¬ ((damaged .found .idle).dev.station 7).mask.getLsbD e.kind.code = true)
    ∧ (let s : State := { damaged (.queued .p0) .idle with dev.rq.queues.p0 := [⟨9, .scanGap⟩, ⟨0, .tear⟩] }
       s.dev.rq.queues.get .p0 = [⟨9, .scanGap⟩] ++ ⟨0, .tear⟩ :: []
         ∧ (∀ q ∈ [Priority.p3, .p2, .p1], s.dev.rq.queues.get q = [])
         ∧ (s.dev.station 7).mask.getLsbD DefectKind.tear.code = true
         ∧ ¬ (s.dev.station 7).mask.getLsbD DefectKind.scanGap.code = true
         ∧ s.dev.findDefect 0 = some (defect 0 10 .tear (.queued .p0))) := by decide +kernel

theorem witness_WorkIsReturnedCompletedAndUndone :
    (1 < (2 : Byte).toNat ∧ ready.Ready ∧ ready.link.listening = true)
    ∧ (7 < (8 : Byte).toNat ∧ 1023 < (1024 : BitVec 16).toNat ∧ (1023 : BitVec 16).toNat ≤ 1023)
    ∧ ((damaged .found .idle).dev.station 7).state = .idle
    ∧ (let s := damaged (.assigned .p1 7) (.working ⟨0, .tear⟩)
       (s.dev.station 7).state = .working ⟨0, .tear⟩ ∧ (⟨0, .tear⟩ : Entry).defect = (0 : BitVec 16).toNat
         ∧ s.dev.findDefect 0 = some (defect 0 10 .tear (.assigned .p1 7)))
    ∧ (session.dev.rq.undo = [] ∧ ({ session with dev.rq.undo := [⟨0, 7, .p1⟩] } : State).dev.rq.undo = ⟨0, 7, .p1⟩ :: [])
    ∧ 192 ≤ (List.replicate 192 (⟨0, .tear⟩ : Entry)).length ∧ (List.replicate 191 (⟨0, .tear⟩ : Entry)).length < 192
    ∧ (damaged .repaired .idle).dev.findDefect 0 = some (defect 0 10 .tear .repaired) := by
  dsimp only [State.Ready]; decide +kernel

/-- The shot at 600 of 9.7, locked. -/
def lockedShot : Shot := { shot 600 0x12000000 with snapshot := some (order 0 0).grade }

theorem witness_ShotsAreDefinedDeletedAndLocked :
    session.dev.resolve ⟨4, 0⟩ = .error .badValue
    ∧ (grading.dev.resolve ⟨0, 1199⟩ = .ok 1199 ∧ grading.dev.resolve ⟨0, 600⟩ = .ok 600)
    ∧ (grading.dev.loadedReel = some (reel .loaded)
      ∧ grading.dev.gu.shots = [shot 0 0x11280301] ++ shot 600 0x12000000 :: [shot 1200 0x11280705]
      ∧ (shot 0 0x11280301).first ≤ 600 ∧ (shot 600 0x12000000).first ≤ 1199 ∧ 1199 < (shot 1200 0x11280705).first)
    ∧ (lockedShot.snapshot.isSome ∧ (shot 600 0).snapshot = none)
    ∧ 512 ≤ (List.replicate 512 (shot 0 0)).length ∧ (List.replicate 511 (shot 0 0)).length < 512
    ∧ grading.dev.NamesShot 0 (shot 0 0x11280301) ∧ grading.dev.NamesShot 1 (shot 600 0x12000000)
    ∧ ({ grading with dev.gu.shots := [shot 0 0, lockedShot] } : State).dev.NamesShot 1 lockedShot
    ∧ (1 : BitVec 16).toNat = [shot 0 0x11280301].length :=
  ⟨rfl, ⟨rfl, rfl⟩, by decide +kernel, by decide, by decide +kernel, by decide +kernel, ⟨rfl, by decide, rfl⟩,
    ⟨rfl, by decide, rfl⟩, ⟨rfl, by decide, rfl⟩, by decide⟩

/-- A SET_RULE at the far ends of its ranges. -/
def ruleAtEnds : RuleOperands :=
  { rule := 31, enabled := 1, key := 0, length := 32
    channels := ⟨⟨4095, 8191, -512, -50⟩, ⟨4095, 8191, 511, 50⟩, ⟨0, 0, 0, 0⟩⟩
    fadeMode := 2, fixedFade := -400, fadeGain := 16, exclude := 0 }

theorem witness_RulesFadeWindowAndStatistics :
    (∀ op ∈ [{ ruleAtEnds with rule := 32 }, { ruleAtEnds with length := 33 }, { ruleAtEnds with enabled := 2 },
        { ruleAtEnds with fadeMode := 3 }, { ruleAtEnds with exclude := 2 }],
      31 < op.rule.toNat ∨ 32 < op.length.toNat ∨ yesNo op.enabled = none ∨ FadeMode.ofCode op.fadeMode.toNat = none
        ∨ yesNo op.exclude = none)
    ∧ (ruleAtEnds.rule.toNat ≤ 31 ∧ ruleAtEnds.length.toNat ≤ 32 ∧ yesNo ruleAtEnds.enabled = some true
      ∧ FadeMode.ofCode ruleAtEnds.fadeMode.toNat = some .off ∧ yesNo ruleAtEnds.exclude = some false)
    ∧ (∀ c ∈ ruleAtEnds.channels.toList, c.black.toNat ≤ 4095 ∧ c.gain.toNat ≤ 8191 ∧ -512 ≤ c.offset.toInt
      ∧ c.offset.toInt ≤ 511 ∧ -50 ≤ c.trim.toInt ∧ c.trim.toInt ≤ 50)
    ∧ (-400 ≤ ruleAtEnds.fixedFade.toInt ∧ ruleAtEnds.fixedFade.toInt ≤ 400 ∧ ruleAtEnds.fadeGain.toNat ≤ 16)
    ∧ ¬ ((4096 : BitVec 16).toNat ≤ 4095) ∧ ¬ ((17 : Byte).toNat ≤ 16)
    ∧ 31 < (32 : Byte).toNat ∧ (31 : Byte).toNat ≤ 31 ∧ 8 < (9 : Byte).toNat ∧ (8 : Byte).toNat ≤ 8 := by decide +kernel

theorem witness_GradeFollowsTheLongestMatchingRule :
    graded.winner 0x11280301 = some (9, rule9) ∧ graded.winner 0x12000000 = none
    ∧ grading.dev.loadedReel = some (reel .loaded)
    ∧ (graded.shots = [shot 0 0x11280301] ++ shot 600 0x12000000 :: [shot 1200 0x11280705]
      ∧ (∀ y ∈ [shot 0 0x11280301], y.first ≤ 600) ∧ (shot 600 0x12000000).first ≤ 600 ∧ (shot 600 0x12000000).first ≤ 1199
      ∧ (∀ y ∈ [shot 1200 0x11280705], 1199 < y.first))
    ∧ graded.shots = [] ++ shot 0 0x11280301 :: [shot 600 0x12000000, shot 1200 0x11280705] := by decide +kernel

/-- Row 222 of the output codes of 9.7: the quotient is -2 exactly. -/
theorem witness_OutputCodeRoundsAndClamps :
    (4096 * (-2 : Int) ≤ (((222 : Nat) : Int) - (230 : Nat)) * (1280 : Nat) + 2048
      ∧ (((222 : Nat) : Int) - (230 : Nat)) * (1280 : Nat) + 2048 < 4096 * (-2 + 1))
    ∧ (-400 ≤ ({ rule9 with fixedFade := -400 } : Rule).fixedFade ∧ ({ rule9 with fixedFade := 400 } : Rule).fixedFade ≤ 400) := by
  decide +kernel

def notice (subject : Nat) : Notice := { kind := .misplaced, subject, first := ⟨0, 0⟩, repeats := 255, detail := 0 }

theorem witness_PostingsCoalesceAppendOrOverflow :
    (∃ n ∈ [notice 7], n.kind = .misplaced ∧ n.subject = 7)
    ∧ ((∀ n ∈ [notice 7], ¬ (n.kind = .misplaced ∧ n.subject = 8)) ∧ ((List.range 31).map notice).length < 32)
    ∧ 32 ≤ ((List.range 32).map notice).length := by decide +kernel

theorem witness_FetchNoticesDrainsTheFront :
    (State.reset.dev.nl.notices = [] ++ [] ∧ ([] : List Notice).length ≤ 8)
    ∧ (let l := (List.range 9).map notice
       l = l.take 8 ++ [notice 8] ∧ (l.take 8).length = 8) := by decide +kernel

theorem witness_SetAttentionMaskMovesTheLine :
    (0x8000 : BitVec 16).getLsbD 15 = true ∧ (0x7FFF : BitVec 16).getLsbD 15 = false := by decide

theorem witness_CountersAreSnapshotAndCleared : 1 < (2 : Byte).toNat := by decide

theorem witness_ReadingsAnswerAndChangeNothing :
    (holding (.shelved 0)).dev.Names 9580 (reel (.shelved 0))
    ∧ ((holding .ready).dev.reels = [reel .ready] ++ [] ∧ (List.replicate 9 (reel .ready)).length = 8 + 1)
    ∧ ((9580 : BitVec 32) ≠ 0 ∧ (holding .ready).dev.reels = [] ++ [reel .ready] ++ []
      ∧ [reel .ready].head?.map (·.id) = some (9580 : BitVec 32).toNat ∧ ∀ r ∈ (holding .ready).dev.reels, r.id ≠ (9581 : BitVec 32).toNat)
    ∧ ((255 : BitVec 16).toNat ≤ 255 ∧ State.reset.dev.slot 0 = .free ∧ (queued 255).dev.slot 255 = .closed)
    ∧ (let d := (holding (.returning 3)).dev.setSlot 3 (.reserved 9580)
       d.slot 3 = .reserved 9580 ∧ d.findReel 9580 = some (reel (.returning 3)))
    ∧ (let d := (holding (.shelved 3)).dev.setSlot 3 (.occupied 9580)
       d.slot 3 = .occupied 9580 ∧ d.findReel 9580 = some (reel (.shelved 3)))
    ∧ (1023 < (1024 : BitVec 16).toNat ∧ (1023 : BitVec 16).toNat ≤ 1023 ∧ (63 : Byte).toNat ≤ 63 ∧ 63 < (64 : Byte).toNat
      ∧ (65534 : BitVec 16) ≠ 65535 ∧ (65534 : BitVec 16).toNat ≤ (65534 : BitVec 16).toNat)
    ∧ (3 < (4 : Byte).toNat ∧ 191 < (192 : Byte).toNat ∧ (191 : Byte).toNat ≤ 191)
    ∧ (511 < (512 : BitVec 16).toNat ∧ (511 : BitVec 16).toNat ≤ 511)
    ∧ State.reset.dev.resolve ⟨0, 0⟩ = .error .wrongState
    ∧ (session.dev.resolve ⟨0, 0⟩ = .ok 0 ∧ session.dev.gu.shotAt 0 = some (shot 0 0x11280301)
      ∧ session.dev.loadedReel = some (reel .loaded))
    ∧ (session.dev.pt = some tracker ∧ State.reset.dev.pt = none)
    ∧ 0 < fieldWidth .nominalPitch :=
  ⟨witness_reel_is_named _, by decide +kernel, by decide +kernel, by decide +kernel, by decide +kernel, by decide +kernel,
    by decide, by decide, by decide, rfl, ⟨rfl, by decide +kernel, by decide +kernel⟩, by decide +kernel, fieldWidth_pos _⟩

/-! The invariants ask for a state that has them and a command that answers. -/

theorem witness_LinkInvariantIsKept : full.LinkInv ∧ ∃ t, exec .replyStart full = .next t := by
  refine ⟨?_, _, rfl⟩
  dsimp only [State.LinkInv]
  exact ⟨by decide, by decide, by decide, by decide, by decide, trivial⟩

theorem witness_NoticesAndCountersStayInBounds :
    (State.reset.dev.post .misplaced 7 0).nl.Inv ∧ State.reset.dev.counters.Inv
    ∧ ∃ t, exec .hostBreak State.reset = .next t := by
  refine ⟨?_, ?_, _, rfl⟩
  · dsimp only [NoticeList.Inv]; decide +kernel
  · dsimp only [Counters.Inv]; decide +kernel

theorem witness_CatalogueInvariantIsKept :
    session.dev.CatalogueInv ∧ session.dev.PassesInv ∧ (holding .ready).dev.PassesInv
    ∧ (∃ t, exec (.withdrawReel via 9580) session = .next t)
    ∧ ∃ t, exec (.grantPasses via 9580 255) (holding .ready) = .next t := by
  refine ⟨⟨by decide +kernel, by decide +kernel, by decide +kernel, by decide +kernel, ?_⟩,
    by dsimp only [Device.PassesInv]; decide +kernel, by dsimp only [Device.PassesInv]; decide +kernel, ⟨_, rfl⟩, _, rfl⟩
  intro id
  simp [session, reel, State.reset, Device.reset]

theorem witness_SlotInvariantIsKept :
    let s : State := { State.reset with dev := (holding (.shelved 0)).dev.setSlot 0 (.occupied 9580) }
    s.dev.SlotInv ∧ ∃ t, exec (.requestReel via 9580) s = .next t := by
  refine ⟨⟨?_, ?_⟩, _, rfl⟩
  · intro r hr n v h
    have : r = reel (.shelved 0) := List.mem_singleton.mp hr
    subst this
    obtain ⟨rfl, rfl⟩ : 0 = n ∧ SlotState.occupied 9580 = v := by simpa [Reel.slotState, reel] using h
    decide +kernel
  · intro n hn id h
    by_cases e : n = 0
    · subst e
      have : id = 9580 := by
        have hs : ((holding (.shelved 0)).dev.setSlot 0 (.occupied 9580)).slot 0 = .occupied 9580 := by decide +kernel
        rw [hs] at h; simpa [SlotState.owner?] using h.symm
      subst this
      exact ⟨reel (.shelved 0), by decide +kernel, by decide, by decide +kernel⟩
    · exfalso
      have hs : ∀ m : Fin 256, m.val ≠ 0 →
          (((holding (.shelved 0)).dev.setSlot 0 (.occupied 9580)).slot m.val).owner? = none := by decide +kernel
      rw [hs ⟨n, hn⟩ e] at h
      cases h

/-- The session with three defects: QUEUED at P1, ASSIGNED to station 7, and REPAIRED with an undo record. -/
def working : State :=
  let queued := defect 0 10 .tear (.queued .p1)
  let assigned := defect 1 20 .dust (.assigned .p2 7)
  let repaired := defect 2 30 .splice .repaired
  let d : Device :=
    { session.dev with
      dm.records := [queued, assigned, repaired], rq.queues := ⟨[], [⟨0, .tear⟩], [], []⟩, rq.undo := [⟨2, 7, .p3⟩] }
  { session with dev := d.setStation 7 ⟨.working ⟨1, .dust⟩, 127⟩ }

theorem working_station (n : Nat) : working.dev.station n =
    if n = 7 then ⟨.working ⟨1, .dust⟩, 127⟩ else ⟨.offline, 0⟩ := by
  simp only [working, Device.station_setStation _ _ (show 7 < 8 by decide)]
  split
  · rfl
  · simp only [Device.station, session, State.reset, Device.reset, Vector.getElem?_replicate]
    split <;> rfl

theorem working_repair : working.dev.RepairInv := by
  refine ⟨by decide +kernel, fun p => by cases p <;> decide +kernel, fun p e => ?_, fun n e => ?_, by decide +kernel,
    by decide +kernel, by decide +kernel⟩
  · cases p <;> simp [working, defect, PerPriority.get, Device.setStation]
  · rw [working_station]
    by_cases h : n = 7
    · simp [h, working, defect, Device.setStation, eq_comm]
    · simp [h, Ne.symm h, working, defect, Device.setStation]

theorem working_work : working.dev.WorkInv := by
  refine ⟨⟨by decide +kernel, fun i r h => ?_⟩, working_repair, ⟨by decide +kernel, by decide +kernel, by decide +kernel⟩,
    by decide +kernel, fun h => absurd h (by decide +kernel)⟩
  match i, h with
  | 0, h => cases h; rfl
  | 1, h => cases h; rfl
  | 2, h => cases h; rfl

theorem witness_SessionInvariantIsKept : running.dev.CatalogueInv ∧ running.dev.tc.Inv ∧ running.dev.SessionInv
    ∧ (∃ t, exec .filmPresentFalls running = .next t) ∧ working.dev.CatalogueInv ∧ working.dev.WorkInv
    ∧ ∃ t, exec (.undoRepair via) working = .next t := by
  have hcat : session.dev.CatalogueInv := by
    refine ⟨by decide +kernel, by decide +kernel, by decide +kernel, by decide +kernel, fun id => ?_⟩
    simp [session, reel, State.reset, Device.reset]
  refine ⟨hcat, by dsimp only [Transport.Inv]; decide +kernel, ⟨?_, ?_⟩, ⟨_, rfl⟩, hcat, working_work, _, rfl⟩
  · intro h
    exact absurd h (by decide +kernel)
  · intro _
    rfl

theorem witness_CaptureInvariantIsKept :
    ({ ordered with dev.cu.gaps := 7 } : State).dev.cu.Inv ∧ running.dev.pipe.Inv
    ∧ (handing [order 1 293]).dev.pipe.Inv ∧ ∃ t, exec (.reportDeadlineExpiry 7) ordered = .next t := by
  refine ⟨?_, ⟨fun _ => rfl, trivial⟩, ⟨fun h => (nomatch h), trivial⟩, _, rfl⟩
  dsimp only [Capture.Inv]; decide +kernel

theorem witness_TransportInvariantIsKept : running.dev.tc.Inv ∧ limiting.dev.tc.Inv ∧ ∃ t, exec (.tensionSample 161 0) running = .next t := by
  refine ⟨?_, ?_, _, rfl⟩ <;> dsimp only [Transport.Inv] <;> decide +kernel

end Sys2Proof.Tests
end

section
/-! The checks of the things a request names, as a request command shows them (R1, R21, R103, R140). -/

namespace Sys2Proof.Machine

/-! ### The checks, one equation for each outcome -/

@[simp] theorem withReel_zero (d : Device) (f : Reel → Device × Answer) : withReel 0 d f = refuse .badValue d := by
  simp [withReel]

/-- An id that no record carries is found nowhere (R1). -/
theorem Device.findReel_eq_none {d : Device} {id : Nat} (h : ∀ r ∈ d.reels, r.id ≠ id) : d.findReel id = none := by
  simpa [Device.findReel] using h

theorem withReel_unknown {d : Device} {id : BitVec 32} (h0 : id ≠ 0) (h : ∀ r ∈ d.reels, r.id ≠ id.toNat)
    (f : Reel → Device × Answer) : withReel id d f = refuse .notFound d := by
  rw [withReel, if_neg h0, Device.findReel_eq_none h]

theorem withSlot_above {slot : BitVec 16} (h : 255 < slot.toNat) (d : Device)
    (f : Nat → SlotState → Device × Answer) : withSlot slot d f = refuse .badValue d :=
  if_pos h

theorem withSlot_names {slot : BitVec 16} (h : slot.toNat ≤ 255) (d : Device)
    (f : Nat → SlotState → Device × Answer) : withSlot slot d f = f slot.toNat (d.slot slot.toNat) :=
  if_neg (Nat.not_lt.mpr h)

theorem answerCloseSlot_above {slot : BitVec 16} (h : 255 < slot.toNat) (d : Device) :
    answerCloseSlot slot d = refuse .badValue d :=
  withSlot_above h _ _

theorem answerOpenSlot_above {slot : BitVec 16} (h : 255 < slot.toNat) (d : Device) :
    answerOpenSlot slot d = refuse .badValue d :=
  withSlot_above h _ _

theorem answerSlotStatus_above {slot : BitVec 16} (h : 255 < slot.toNat) (d : Device) :
    answerSlotStatus slot d = refuse .badValue d :=
  withSlot_above h _ _

theorem Zone.ofCode_above {n : Nat} (h : 3 < n) : Zone.ofCode n = none := by
  match n, h with
  | _ + 4, _ => rfl

theorem withZone_above {zone : Byte} (h : 3 < zone.toNat) (d : Device) (f : Zone → Device × Answer) :
    withZone zone d f = refuse .badValue d := by
  rw [withZone, Zone.ofCode_above h]

theorem withDefect_unloaded {d : Device} (h : d.loadedReel = none) (id : BitVec 16) (f : Defect → Device × Answer) :
    withDefect id d f = refuse .wrongState d := by
  simp [withDefect, h]

theorem withDefect_above {d : Device} {id : BitVec 16} (h : d.loadedReel.isSome) (hid : 1023 < id.toNat)
    (f : Defect → Device × Answer) : withDefect id d f = refuse .badValue d := by
  rw [withDefect, if_neg (by simp [Option.isSome_iff_ne_none.mp h]), if_pos hid]

/-- An id that no defect record carries is found nowhere (R103). -/
theorem Device.findDefect_eq_none {d : Device} {id : Nat} (h : ¬ ∃ r ∈ d.dm.records, r.id = id) :
    d.findDefect id = none := by
  simpa [Device.findDefect] using h

theorem withDefect_unknown {d : Device} {id : BitVec 16} (h : d.loadedReel.isSome) (hid : id.toNat ≤ 1023)
    (hr : ¬ ∃ r ∈ d.dm.records, r.id = id.toNat) (f : Defect → Device × Answer) :
    withDefect id d f = refuse .notFound d := by
  rw [withDefect, if_neg (by simp [Option.isSome_iff_ne_none.mp h]), if_neg (Nat.not_lt.mpr hid),
    Device.findDefect_eq_none hr]

theorem withShot_unloaded {d : Device} (h : d.loadedReel = none) (index : BitVec 16) (f : Shot → Device × Answer) :
    withShot index d f = refuse .wrongState d := by
  simp [withShot, h]

theorem withShot_above {d : Device} {index : BitVec 16} (h : d.loadedReel.isSome) (hi : 511 < index.toNat)
    (f : Shot → Device × Answer) : withShot index d f = refuse .badValue d := by
  rw [withShot, if_neg (by simp [Option.isSome_iff_ne_none.mp h]), if_pos hi]

theorem withShot_past {d : Device} {index : BitVec 16} (h : d.loadedReel.isSome) (hi : index.toNat ≤ 511)
    (hs : ¬ index.toNat < d.gu.shots.length) (f : Shot → Device × Answer) :
    withShot index d f = refuse .notFound d := by
  rw [withShot, if_neg (by simp [Option.isSome_iff_ne_none.mp h]), if_neg (Nat.not_lt.mpr hi),
    List.getElem?_eq_none (Nat.not_lt.mp hs)]

/-! ### What the checks make a request command give

The hypothesis of each lemma says that the command gives whatever the check, with some continuation, answers: for a
command of the catalogue that is `State.gives_of`. -/

section
variable {s : State} {k : Kind}

theorem State.gives_reel_checks (c : BitVec 32 → Envelope → Instr) {f : BitVec 32 → Reel → Device × Answer}
    (h : ∀ id d status body, withReel id s.dev (f id) = (d, ⟨status, body⟩) → s.Gives (c id) k d status body) :
    s.Gives (c 0) k s.dev .badValue []
    ∧ ∀ id : BitVec 32, id ≠ 0 → (∀ r ∈ s.dev.reels, r.id ≠ id.toNat) → s.Gives (c id) k s.dev .notFound [] :=
  ⟨h _ _ _ _ (withReel_zero _ _), fun _ h0 hr => h _ _ _ _ (withReel_unknown h0 hr _)⟩

theorem State.gives_defect_checks {c : BitVec 16 → Envelope → Instr} {f : BitVec 16 → Defect → Device × Answer}
    (h : ∀ id d status body, withDefect id s.dev (f id) = (d, ⟨status, body⟩) → s.Gives (c id) k d status body)
    (id : BitVec 16) :
    (s.dev.loadedReel = none → s.Gives (c id) k s.dev .wrongState [])
    ∧ (s.dev.loadedReel.isSome → 1023 < id.toNat → s.Gives (c id) k s.dev .badValue [])
    ∧ (s.dev.loadedReel.isSome → id.toNat ≤ 1023 → ¬ (∃ r ∈ s.dev.dm.records, r.id = id.toNat) →
      s.Gives (c id) k s.dev .notFound []) :=
  ⟨fun hl => h _ _ _ _ (withDefect_unloaded hl _ _), fun hl hid => h _ _ _ _ (withDefect_above hl hid _),
    fun hl hid hr => h _ _ _ _ (withDefect_unknown hl hid hr _)⟩

theorem State.gives_shot_checks {c : BitVec 16 → Envelope → Instr} {f : BitVec 16 → Shot → Device × Answer}
    (h : ∀ i d status body, withShot i s.dev (f i) = (d, ⟨status, body⟩) → s.Gives (c i) k d status body)
    (i : BitVec 16) :
    (s.dev.loadedReel = none → s.Gives (c i) k s.dev .wrongState [])
    ∧ (s.dev.loadedReel.isSome → 511 < i.toNat → s.Gives (c i) k s.dev .badValue [])
    ∧ (s.dev.loadedReel.isSome → i.toNat ≤ 511 → ¬ i.toNat < s.dev.gu.shots.length →
      s.Gives (c i) k s.dev .notFound []) :=
  ⟨fun hl => h _ _ _ _ (withShot_unloaded hl _ _), fun hl hi => h _ _ _ _ (withShot_above hl hi _),
    fun hl hi hs => h _ _ _ _ (withShot_past hl hi hs _)⟩

end

/-- Settles O23: each request is one of the checks, with its own rule as the continuation. -/
theorem namedThingsAreCheckedFirst : Obligations.NamedThingsAreCheckedFirst := by
  intro s reel slot zone session defect shot
  exact ⟨
    State.gives_reel_checks (fun id => (.withdrawReel · id)) fun id _ _ _ =>
      State.gives_of (.withdrawReel id) (fun _ => rfl) rfl,
    State.gives_reel_checks (fun id => (.requestReel · id)) fun id _ _ _ =>
      State.gives_of (.requestReel id) (fun _ => rfl) rfl,
    State.gives_reel_checks (fun id => (.reelArrived · id)) fun id _ _ _ =>
      State.gives_of (.reelArrived id) (fun _ => rfl) rfl,
    fun head => State.gives_reel_checks (fun id => (.loadReel · id head)) fun id _ _ _ =>
      State.gives_of (.loadReel id head) (fun _ => rfl) rfl,
    fun n => State.gives_reel_checks (fun id => (.reelPlaced · id n)) fun id _ _ _ =>
      State.gives_of (.reelPlaced id n) (fun _ => rfl) rfl,
    State.gives_reel_checks (fun id => (.recallReel · id)) fun id _ _ _ =>
      State.gives_of (.recallReel id) (fun _ => rfl) rfl,
    fun cls permit fade => State.gives_reel_checks (fun id => (.setCondition · ⟨id, cls, permit, fade⟩)) fun id _ _ _ =>
      State.gives_of (.setCondition ⟨id, cls, permit, fade⟩) (fun _ => rfl) rfl,
    fun n => State.gives_reel_checks (fun id => (.grantPasses · id n)) fun id _ _ _ =>
      State.gives_of (.grantPasses id n) (fun _ => rfl) rfl,
    State.gives_reel_checks (fun id => (.reelStatus · id)) fun id _ _ _ =>
      State.gives_of (.reelStatus id) (fun _ => rfl) rfl,
    fun n hn => State.gives_of (.closeSlot n) (fun _ => rfl) rfl (answerCloseSlot_above hn _),
    fun n hn => State.gives_of (.openSlot n) (fun _ => rfl) rfl (answerOpenSlot_above hn _),
    fun n hn => State.gives_of (.slotStatus n) (fun _ => rfl) rfl (answerSlotStatus_above hn _),
    fun t n hn => State.gives_of (.setZoneTime n t) (fun _ => rfl) rfl (withZone_above hn _ _),
    fun n hn => State.gives_of (.zoneStatus n) (fun _ => rfl) rfl (withZone_above hn _ _),
    fun p => State.gives_defect_checks fun id _ _ _ => State.gives_of (.queueDefect id p) (fun _ => rfl) rfl,
    State.gives_defect_checks fun id _ _ _ => State.gives_of (.waiveDefect id) (fun _ => rfl) rfl,
    fun p => State.gives_defect_checks fun id _ _ _ => State.gives_of (.requeueDefect id p) (fun _ => rfl) rfl,
    State.gives_shot_checks fun i _ _ _ => State.gives_of (.deleteShot i) (fun _ => rfl) rfl,
    State.gives_shot_checks fun i _ _ _ => State.gives_of (.lockShot i) (fun _ => rfl) rfl,
    State.gives_shot_checks fun i _ _ _ => State.gives_of (.unlockShot i) (fun _ => rfl) rfl⟩

end Sys2Proof.Machine
end

section
/-! The Reel Catalogue: what the owner answers about a named reel, state by state (R4, R5, R12, R13, R15). -/

namespace Sys2Proof.Machine

section
variable {d : Device} {id : BitVec 32} {r : Reel}

/-! ### WITHDRAW_REEL (R4) -/

theorem answerWithdrawReel_shelved (h : d.Names id r) {n : Nat} (hs : r.state = .shelved n) :
    answerWithdrawReel id d = (((d.deleteReel r.id).freeSlot n).offer n, ⟨.ok, []⟩) := by
  simp only [answerWithdrawReel, withReel_names h, hs]

theorem answerWithdrawReel_inSuite (h : d.Names id r)
    (hs : (∃ deadline, r.state = .acclimatizing deadline) ∨ r.state = .ready) :
    answerWithdrawReel id d = (d.deleteReel r.id, ⟨.ok, []⟩) := by
  obtain ⟨_, hs⟩ | hs := hs <;> simp only [answerWithdrawReel, withReel_names h, hs]

theorem answerWithdrawReel_hold (h : d.Names id r) (hs : r.state = .hold) :
    answerWithdrawReel id d = ({ d.deleteReel r.id with vault.hold := d.vault.hold.erase r.id }, ⟨.ok, []⟩) := by
  simp only [answerWithdrawReel, withReel_names h, hs]

theorem answerWithdrawReel_refused (h : d.Names id r)
    (hs : (∃ n, r.state = .outbound n) ∨ (∃ n, r.state = .returning n) ∨ r.state = .loaded) :
    answerWithdrawReel id d = refuse .wrongState d := by
  obtain ⟨_, hs⟩ | ⟨_, hs⟩ | hs := hs <;> simp only [answerWithdrawReel, withReel_names h, hs]

/-! ### REQUEST_REEL (R5) -/

theorem answerRequestReel_shelved (h : d.Names id r) {n : Nat} (hs : r.state = .shelved n) :
    answerRequestReel id d = (d.setReel r.id fun x => { x with state := .outbound n }, ⟨.ok, []⟩) := by
  simp only [answerRequestReel, withReel_names h, hs]

theorem answerRequestReel_refused (h : d.Names id r) (hs : ∀ n, r.state ≠ .shelved n) :
    answerRequestReel id d = refuse .wrongState d := by
  simp only [answerRequestReel, withReel_names h]
  split
  · exact absurd ‹_› (hs _)
  all_goals rfl

/-! ### REEL_PLACED (R12) -/

/-- A reel is shelved in a slot: the slot is OCCUPIED by it, and its record says so. -/
def Device.shelveReel (id n : Nat) (d : Device) : Device :=
  (d.setSlot n (.occupied id)).setReel id fun x => { x with state := .shelved n }

theorem answerReelPlaced_badSlot (h : d.Names id r) {slot : BitVec 16} (hn : 255 < slot.toNat) :
    answerReelPlaced id slot d = refuse .badValue d := by
  simp only [answerReelPlaced, withReel_names h, withSlot_above hn]

theorem answerReelPlaced_refused (h : d.Names id r) {slot : BitVec 16} (hn : slot.toNat ≤ 255)
    (hs : ∀ old, r.state ≠ .returning old) : answerReelPlaced id slot d = refuse .wrongState d := by
  simp only [answerReelPlaced, withReel_names h, withSlot_names hn]
  split
  · exact absurd ‹_› (hs _)
  all_goals rfl

theorem answerReelPlaced_reserved (h : d.Names id r) {slot : BitVec 16} (hn : slot.toNat ≤ 255)
    (hs : r.state = .returning slot.toNat) :
    answerReelPlaced id slot d = (d.shelveReel r.id slot.toNat, ⟨.ok, []⟩) := by
  simp only [answerReelPlaced, withReel_names h, withSlot_names hn, hs, if_true, Device.shelveReel]

/-- Any slot but the reserved one is taken exactly when it is FREE and the reel may use it. -/
theorem answerReelPlaced_other (h : d.Names id r) {slot : BitVec 16} (hn : slot.toNat ≤ 255) {old : Nat}
    (ho : old ≠ slot.toNat) (hs : r.state = .returning old) :
    answerReelPlaced id slot d =
      if d.slot slot.toNat = .free ∧ d.usable r slot.toNat then
        (((d.shelveReel r.id slot.toNat).freeSlot old).offer old, ⟨.ok, []⟩)
      else refuse .badValue d := by
  simp only [answerReelPlaced, withReel_names h, withSlot_names hn, hs, if_neg ho.symm, Device.shelveReel]

/-! ### RECALL_REEL (R13) -/

theorem answerRecallReel_returning (h : d.Names id r) {n : Nat} (hs : r.state = .returning n) :
    answerRecallReel id d
      = (((d.freeSlot n).setReel r.id fun x => { x with state := .ready }).offer n, ⟨.ok, []⟩) := by
  simp only [answerRecallReel, withReel_names h, hs]

theorem answerRecallReel_hold (h : d.Names id r) (hs : r.state = .hold) :
    answerRecallReel id d
      = (({ d with vault.hold := d.vault.hold.erase r.id } : Device).setReel r.id fun x => { x with state := .ready },
          ⟨.ok, []⟩) := by
  simp only [answerRecallReel, withReel_names h, hs]

theorem answerRecallReel_refused (h : d.Names id r) (hr : ∀ n, r.state ≠ .returning n) (hh : r.state ≠ .hold) :
    answerRecallReel id d = refuse .wrongState d := by
  simp only [answerRecallReel, withReel_names h]
  split
  · exact absurd ‹_› (hr _)
  · exact absurd ‹_› hh
  all_goals rfl

/-! ### GRANT_PASSES (R15) -/

/-- The status of a value with an upper bound (Introduction, Clamping and refusal). -/
theorem okOr_above (top n : Nat) : okOr (decide (top < n)) = if n ≤ top then .ok else .okClamped := by
  by_cases h : n ≤ top <;> simp [okOr, h]

theorem answerGrantPasses_named (h : d.Names id r) (n : Byte) :
    answerGrantPasses id n d
      = (d.setReel r.id fun x => { x with passes := min (r.passes + n.toNat) 15 },
          ⟨if r.passes + n.toNat ≤ 15 then .ok else .okClamped, u8 (min (r.passes + n.toNat) 15)⟩) := by
  simp only [answerGrantPasses, withReel_names h, okOr_above, Nat.min_comm 15]

end

/-! ### The commands -/

/-- Settles O17: SHELVED, or any other state (R5). -/
theorem requestReelSendsShelvedReelOut : Obligations.RequestReelSendsShelvedReelOut := fun id _ _ h =>
  ⟨fun _ hs => State.gives_of (.requestReel id) (fun _ => rfl) rfl (answerRequestReel_shelved h hs),
    fun hs => State.gives_of (.requestReel id) (fun _ => rfl) rfl (answerRequestReel_refused h hs)⟩

/-- Settles O22: the answer is the same in every reel state (R15). -/
theorem grantPassesAddsToFifteen : Obligations.GrantPassesAddsToFifteen := fun id n _ _ h =>
  State.gives_of (.grantPasses id n) (fun _ => rfl) rfl (answerGrantPasses_named h n)

/-- Settles O16, state by state; a slot other than the reserved one is judged by the usability test (R12, R27). -/
theorem withdrawnPlacedAndRecalledReels : Obligations.WithdrawnPlacedAndRecalledReels := by
  refine ⟨fun id r s h => ?withdrawn, fun id r s h => ⟨fun slot => ?placed, ?recalled⟩⟩
  case withdrawn =>
    exact ⟨fun _ hs => State.gives_of (.withdrawReel id) (fun _ => rfl) rfl (answerWithdrawReel_shelved h hs),
      fun hs => State.gives_of (.withdrawReel id) (fun _ => rfl) rfl (answerWithdrawReel_inSuite h hs),
      fun hs => State.gives_of (.withdrawReel id) (fun _ => rfl) rfl (answerWithdrawReel_hold h hs),
      fun hs => State.gives_of (.withdrawReel id) (fun _ => rfl) rfl (answerWithdrawReel_refused h hs)⟩
  case placed =>
    refine ⟨fun hn => State.gives_of (.reelPlaced id slot) (fun _ => rfl) rfl (answerReelPlaced_badSlot h hn),
      fun hn hs => State.gives_of (.reelPlaced id slot) (fun _ => rfl) rfl (answerReelPlaced_refused h hn hs),
      fun hn hs => State.gives_of (.reelPlaced id slot) (fun _ => rfl) rfl (answerReelPlaced_reserved h hn hs),
      fun old hn ho hs => ?_⟩
    have other := answerReelPlaced_other h hn ho hs
    simp only [Device.usable_iff] at other
    exact ⟨fun may => State.gives_of (.reelPlaced id slot) (fun _ => rfl) rfl (other.trans (if_pos may)),
      fun may => State.gives_of (.reelPlaced id slot) (fun _ => rfl) rfl (other.trans (if_neg may))⟩
  case recalled =>
    exact ⟨fun _ hs => State.gives_of (.recallReel id) (fun _ => rfl) rfl (answerRecallReel_returning h hs),
      fun hs => State.gives_of (.recallReel id) (fun _ => rfl) rfl (answerRecallReel_hold h hs),
      fun hr hh => State.gives_of (.recallReel id) (fun _ => rfl) rfl (answerRecallReel_refused h hr hh)⟩

end Sys2Proof.Machine
end

section
/-! The Shelf Allocator: how the return slot of an unloaded reel is found (R29). -/

namespace Sys2Proof.Machine

/-- Slot `n` exists, lies in zone `z` and is FREE (R21). -/
def Device.FreeIn (d : Device) (z : Zone) (n : Nat) : Prop := n < 256 ∧ zoneOf n = z ∧ d.slot n = .free

/-- The zones in the order in which a return slot is sought (R29). -/
def Device.returnZones (d : Device) (r : Reel) : List Zone :=
  (if 0 < r.deferred then [.workroom] else []) ++ (if d.allowed r.cls r.home then [r.home] else [])
    ++ Zone.all.filter fun z => decide (z ≠ r.home) && d.allowed r.cls z

theorem Device.returnSlot_eq_findSome (d : Device) (r : Reel) :
    d.returnSlot r = (d.returnZones r).findSome? d.lowestFree := rfl

/-- A zone's search takes the slot that is FREE in it with no lower one FREE in it. -/
theorem Device.lowestFree_eq_some_iff (d : Device) (z : Zone) (n : Nat) :
    d.lowestFree z = some n ↔ d.FreeIn z n ∧ ∀ m < n, ¬ d.FreeIn z m := by
  simp only [Device.lowestFree, List.find?_range_eq_some, List.mem_range, Bool.and_eq_true, decide_eq_true_eq,
    Bool.not_eq_true', Bool.and_eq_false_imp, decide_eq_false_iff_not, Device.FreeIn]
  constructor
  · rintro ⟨⟨hz, hf⟩, hn, lower⟩
    exact ⟨⟨hn, hz, hf⟩, fun m hm ⟨_, hmz, hmf⟩ => lower m hm hmz hmf⟩
  · rintro ⟨⟨hn, hz, hf⟩, lower⟩
    exact ⟨⟨hz, hf⟩, hn, fun m hm hmz hmf => lower m hm ⟨hm.trans hn, hmz, hmf⟩⟩

/-- A zone's search fails just when none of its slots is FREE. -/
theorem Device.lowestFree_eq_none_iff (d : Device) (z : Zone) : d.lowestFree z = none ↔ ∀ m, ¬ d.FreeIn z m := by
  simp [Device.lowestFree, Device.FreeIn]

/-- The search over the zones takes what the first zone with a FREE slot gives, and passes over those without one. -/
theorem Device.returnSlot_eq_some_iff (d : Device) (r : Reel) (n : Nat) :
    d.returnSlot r = some n ↔ ∃ before z after, d.returnZones r = before ++ z :: after ∧ d.FreeIn z n
      ∧ (∀ m < n, ¬ d.FreeIn z m) ∧ ∀ y ∈ before, ∀ m, ¬ d.FreeIn y m := by
  simp only [Device.returnSlot_eq_findSome, List.findSome?_eq_some_iff, Device.lowestFree_eq_some_iff,
    Device.lowestFree_eq_none_iff, and_assoc]

theorem Device.returnSlot_eq_none_iff (d : Device) (r : Reel) :
    d.returnSlot r = none ↔ ∀ z ∈ d.returnZones r, ∀ m, ¬ d.FreeIn z m := by
  simp only [Device.returnSlot_eq_findSome, List.findSome?_eq_none_iff, Device.lowestFree_eq_none_iff]

/-- Settles O25: the slot found and the failure to find one, each read off the search zone by zone (R29). -/
theorem returnSlotFollowsTheAllocationOrder : Obligations.ReturnSlotFollowsTheAllocationOrder :=
  fun r d => ⟨d.returnSlot_eq_some_iff r, d.returnSlot_eq_none_iff r⟩

end Sys2Proof.Machine
end

section
/-! The Transport Controller: STOP, an end asked for by any cause, and RELEASE, state by state (R56, R57, R66). -/

namespace Sys2Proof.Machine

section
variable {d : Device}

/-! ### An end asked for before the end frame (R56, R57) -/

theorem Device.askEnd_noPass (cause : PendingEnd)
    (h : d.tc.state = .empty ∨ d.tc.state = .threading ∨ d.tc.state = .stopped ∨ d.tc.state = .fault) :
    d.askEnd cause = d := by
  obtain h | h | h | h := h <;> simp only [Device.askEnd, h]

theorem Device.askEnd_inMotion_first (cause : PendingEnd)
    (h : d.tc.state = .running ∨ d.tc.state = .winding ∨ d.tc.state = .limiting) (hp : d.tc.pendingEnd = none) :
    d.askEnd cause = { d with tc.pendingEnd := some cause } := by
  obtain h | h | h := h <;> simp only [Device.askEnd, h, hp]

theorem Device.askEnd_inMotion_kept (cause : PendingEnd)
    (h : d.tc.state = .running ∨ d.tc.state = .winding ∨ d.tc.state = .limiting) {kept : PendingEnd}
    (hp : d.tc.pendingEnd = some kept) : d.askEnd cause = d := by
  obtain h | h | h := h <;> simp only [Device.askEnd, h, hp]

theorem Device.askEnd_inMotion (cause : PendingEnd)
    (h : d.tc.state = .running ∨ d.tc.state = .winding ∨ d.tc.state = .limiting) :
    d.askEnd cause = { d with tc.pendingEnd := some (d.tc.pendingEnd.getD cause) } := by
  cases hp : d.tc.pendingEnd with
  | none => exact Device.askEnd_inMotion_first cause h hp
  | some kept => rw [Device.askEnd_inMotion_kept cause h hp, Option.getD_some, ← hp]

theorem Device.askEnd_relaxing (cause : PendingEnd) (h : d.tc.state = .relaxing) :
    d.askEnd cause = d.endRelaxing cause := by
  simp only [Device.askEnd, h]

/-- The notice carries neither alignment nor any other value of TC, so alignment may be lost before it is posted. -/
theorem Device.endRelaxing_eq_post (cause : PendingEnd) (d : Device) :
    d.endRelaxing cause
      = ({ d with tc := { d.tc.passOver .stopped with aligned := false } } : Device).post .passEnded d.loadedId
          cause.cause.code := rfl

/-! ### STOP (R56) -/

theorem answerStop_refused (h : d.tc.state = .empty ∨ d.tc.state = .threading ∨ d.tc.state = .fault) :
    answerStop d = refuse .wrongState d := by
  obtain h | h | h := h <;> simp only [answerStop, h]

/-- Where STOP is not refused it asks for an end with cause HOST_STOP. -/
theorem answerStop_asks (he : d.tc.state ≠ .empty) (ht : d.tc.state ≠ .threading) (hf : d.tc.state ≠ .fault) :
    answerStop d = (d.askEnd .hostStop, ⟨.ok, []⟩) := by
  simp only [answerStop]
  split
  · exact absurd ‹_› he
  · exact absurd ‹_› ht
  · exact absurd ‹_› hf
  all_goals rfl

theorem answerStop_stopped (h : d.tc.state = .stopped) : answerStop d = (d, ⟨.ok, []⟩) := by
  rw [answerStop_asks (by simp [h]) (by simp [h]) (by simp [h]), Device.askEnd_noPass _ (by simp [h])]

theorem answerStop_inMotion (h : d.tc.state = .running ∨ d.tc.state = .winding ∨ d.tc.state = .limiting) :
    answerStop d = ({ d with tc.pendingEnd := some (d.tc.pendingEnd.getD .hostStop) }, ⟨.ok, []⟩) := by
  rw [← Device.askEnd_inMotion _ h]
  obtain h | h | h := h <;> exact answerStop_asks (by simp [h]) (by simp [h]) (by simp [h])

theorem answerStop_relaxing (h : d.tc.state = .relaxing) :
    answerStop d = (d.endRelaxing .hostStop, ⟨.ok, []⟩) := by
  rw [answerStop_asks (by simp [h]) (by simp [h]) (by simp [h]), Device.askEnd_relaxing _ h]

/-! ### RELEASE (R66) -/

theorem answerRelease_refused (h : d.tc.state ≠ .fault) : answerRelease d = refuse .wrongState d := by
  simp only [answerRelease]
  split
  · exact absurd ‹_› h
  all_goals rfl

theorem answerRelease_withoutFilm (h : d.tc.state = .fault) (hf : d.tc.filmPresent = false) :
    answerRelease d = ({ d with tc.faultCause := none, tc.state := .empty }, ⟨.ok, []⟩) := by
  simp only [answerRelease, h, if_pos hf]

/-- With film, the fault cause and the tensions decide. -/
theorem answerRelease_withFilm (h : d.tc.state = .fault) (hf : d.tc.filmPresent = true) :
    answerRelease d =
      if (d.tc.faultCause = some .strain ∨ d.tc.faultCause = some .slip) ∧ (30 ≤ d.tc.feed ∨ 30 ≤ d.tc.takeUp) then
        refuse .stillActive d
      else if d.tc.faultCause = some .thread then
        (({ d with tc.faultCause := none } : Device).startThreading, ⟨.ok, []⟩)
      else ({ d with tc.faultCause := none, tc.state := .stopped }, ⟨.ok, []⟩) := by
  simp only [answerRelease, h, if_neg (ne_false_of_eq_true hf)]

/-- A THREAD fault threads again, whatever the tensions. -/
theorem answerRelease_thread (h : d.tc.state = .fault) (hf : d.tc.filmPresent = true)
    (hc : d.tc.faultCause = some .thread) :
    answerRelease d = (({ d with tc.faultCause := none } : Device).startThreading, ⟨.ok, []⟩) := by
  rw [answerRelease_withFilm h hf, if_neg (by simp [hc]), if_pos hc]

end

/-! ### The commands -/

/-- Settles O32, state by state; STOP is an end asked for with cause HOST_STOP wherever it is not refused (R56, R57,
R66). -/
theorem stopAndReleaseMoveTheTransport : Obligations.StopAndReleaseMoveTheTransport := by
  refine ⟨fun s => ?stop, fun cause d => ?askEnd, fun s => ?release⟩
  case stop =>
    exact ⟨fun h => State.gives_of .stop (fun _ => rfl) rfl (answerStop_refused h),
      fun h => State.gives_of .stop (fun _ => rfl) rfl (answerStop_stopped h),
      fun h => State.gives_of .stop (fun _ => rfl) rfl (answerStop_inMotion h),
      fun h => State.gives_of .stop (fun _ => rfl) rfl (answerStop_relaxing h)⟩
  case askEnd =>
    refine ⟨d.askEnd_noPass cause, d.askEnd_inMotion cause, fun h => ?_⟩
    rw [d.askEnd_relaxing cause h, d.endRelaxing_eq_post cause]
    cases cause <;> rfl
  case release =>
    refine ⟨fun h => State.gives_of .release (fun _ => rfl) rfl (answerRelease_refused h),
      fun h hf => State.gives_of .release (fun _ => rfl) rfl (answerRelease_withoutFilm h hf), fun h hf => ?_⟩
    have withFilm := answerRelease_withFilm h hf
    exact ⟨fun active => State.gives_of .release (fun _ => rfl) rfl (withFilm.trans (if_pos active)),
      fun hc => State.gives_of .release (fun _ => rfl) rfl (answerRelease_thread h hf hc),
      fun inactive hc => State.gives_of .release (fun _ => rfl) rfl
        (withFilm.trans ((if_neg inactive).trans (if_neg hc)))⟩

end Sys2Proof.Machine
end

section
/-! The Grading Unit: output codes, fades and effective black points with their bounds (R153). -/

namespace Sys2Proof.Machine

/-! ### Values brought within a range -/

theorem clampInt_eq_ite {lo hi : Int} (h : lo ≤ hi) (n : Int) :
    clampInt lo hi n = if n < lo then lo else if hi < n then hi else n := by
  simp only [clampInt]; omega

theorem clampInt_zero_toNat {hi : Int} (h : 0 ≤ hi) (n : Int) : ((clampInt 0 hi n).toNat : Int) = clampInt 0 hi n :=
  Int.toNat_of_nonneg (clampInt_in_range 0 hi n h).1

/-- A floor quotient is the whole number whose multiple of the divisor is the last at or below the dividend. -/
theorem fdiv_eq_of_mul_le_of_lt_mul {n m q : Int} (hm : 0 < m) (lower : m * q ≤ n) (upper : n < m * (q + 1)) :
    n.fdiv m = q := by
  rw [Int.fdiv_eq_ediv_of_nonneg n hm.le]
  have atLeast : q ≤ n / m := (Int.le_ediv_iff_mul_le hm).mpr (mul_comm m q ▸ lower)
  have below : n / m < q + 1 := (Int.ediv_lt_iff_lt_mul hm).mpr (mul_comm m (q + 1) ▸ upper)
  exact le_antisymm (Int.lt_add_one_iff.mp below) atLeast

/-! ### Output codes, fades and black points -/

/-- The clamp holds the output code, so that taking it as a natural number loses nothing (R153). -/
theorem outputCode_cast (g : ChannelGrade) (density : Nat) : (outputCode g density : Int) =
    clampInt 0 1023 (g.offset + (((density : Int) - g.black) * g.gain + 2048).fdiv 4096) :=
  clampInt_zero_toNat (by decide) _

theorem outputCode_le (g : ChannelGrade) (density : Nat) : outputCode g density ≤ 1023 :=
  Int.ofNat_le.mp (outputCode_cast g density ▸ (clampInt_in_range 0 1023 _ (by decide)).2)

theorem effectiveBlack_le (c : ChannelRule) (fade : Int) : effectiveBlack c fade ≤ 4095 :=
  Int.toNat_le.mpr (clampInt_in_range 0 4095 _ (by decide)).2

/-- AUTO is held by the clamp of R150, step 3, FIXED by the range of its field (R145), and OFF gives 0. -/
theorem fadeOf_in_range {r : Rule} (lower : -400 ≤ r.fixedFade) (upper : r.fixedFade ≤ 400) (reference : Nat)
    (f : FadeChannel) : -400 ≤ fadeOf r reference f ∧ fadeOf r reference f ≤ 400 := by
  cases mode : r.fadeMode with
  | auto =>
    simp only [fadeOf, mode]
    split
    · exact clampInt_in_range _ _ _ (by decide)
    · decide
  | fixed => simpa only [fadeOf, mode] using And.intro lower upper
  | off => simp [fadeOf, mode]

/-- Settles O47: the floor is the whole number q of the two bounds, and the clamps of R150 and R153 give the ranges. -/
theorem outputCodeRoundsAndClamps : Obligations.OutputCodeRoundsAndClamps := by
  refine ⟨fun g density q lower upper => ?_, outputCode_le,
    fun r reference f lower upper => fadeOf_in_range lower upper reference f, effectiveBlack_le⟩
  rw [outputCode_cast, fdiv_eq_of_mul_le_of_lt_mul (by decide) lower upper, clampInt_eq_ite (by decide)]

end Sys2Proof.Machine
end

section
/-! The Notice List and the counter set: FETCH_NOTICES, SNAPSHOT_COUNTERS and CLEAR_COUNTERS (R161, R166, R167). -/

namespace Sys2Proof.Machine

section
variable {d : Device}

/-! ### FETCH_NOTICES (R161) -/

/-- Where R161 cuts the list: the records that leave are 8, or fewer when they are all there are. -/
def FetchSplit (front back : List Notice) : Prop := front.length = 8 ∨ (front.length ≤ 8 ∧ back = [])

section
variable {front back : List Notice}

theorem FetchSplit.take (h : FetchSplit front back) : (front ++ back).take 8 = front := by
  obtain full | ⟨short, rfl⟩ := h
  · exact List.take_left' full
  · rw [List.append_nil, List.take_of_length_le short]

theorem FetchSplit.drop (h : FetchSplit front back) : (front ++ back).drop 8 = back := by
  obtain full | ⟨short, rfl⟩ := h
  · exact List.drop_left' full
  · rw [List.append_nil, List.drop_of_length_le short]

/-- No record leaves only when none waits. -/
theorem FetchSplit.append_eq_nil_iff (h : FetchSplit front back) : front ++ back = [] ↔ front = [] := by
  obtain full | ⟨-, rfl⟩ := h
  · have nonempty : front ≠ [] := List.ne_nil_of_length_pos (by omega)
    simp [nonempty]
  · rw [List.append_nil]

theorem answerFetchNotices_of_split (h : FetchSplit front back) (waiting : d.nl.notices = front ++ back) :
    answerFetchNotices d = ({ d with nl.notices := back, nl.overflow := 0 },
      ⟨if front = [] then .nothing else .ok,
        u8 front.length ++ front.flatMap Notice.bytes ++ u8 d.nl.overflow⟩) := by
  simp only [answerFetchNotices, waiting, h.take, h.drop, h.append_eq_nil_iff, counted]

end

/-! ### SNAPSHOT_COUNTERS and CLEAR_COUNTERS (R166, R167) -/

/-- A byte that is neither 0 nor 1 is neither no nor yes (R183). -/
theorem yesNo_above {b : Byte} (h : 1 < b.toNat) : yesNo b = none := by
  have notYes : b ≠ 1 := by rintro rfl; exact absurd h (by decide)
  have notNo : b ≠ 0 := by rintro rfl; exact absurd h (by decide)
  rw [yesNo, if_neg notYes, if_neg notNo]

theorem Counters.zero_all_zero : ∀ n ∈ Counters.zero.toList, n = 0 := by decide

theorem answerSnapshotCounters_above {clear : Byte} (h : 1 < clear.toNat) :
    answerSnapshotCounters clear d = refuse .badValue d := by
  rw [answerSnapshotCounters, yesNo_above h]

theorem answerSnapshotCounters_no (d : Device) :
    answerSnapshotCounters 0 d =
      ({ d with snapshot := { values := d.counters, time := some d.time.runCounter } }, ⟨.ok, []⟩) := rfl

/-- The snapshot is taken before the counters are cleared (R166). -/
theorem answerSnapshotCounters_yes (d : Device) :
    answerSnapshotCounters 1 d =
      ({ d with snapshot := { values := d.counters, time := some d.time.runCounter },
                counters := Counters.zero }, ⟨.ok, []⟩) := rfl

end

/-! ### The commands -/

/-- Settles O49: the limit of 8 is met by a front of 8 records, or by a front that is the whole list (R161). -/
theorem fetchNoticesDrainsTheFront : Obligations.FetchNoticesDrainsTheFront := by
  intro front back s waiting short fullOrAll
  have parts : FetchSplit front back := fullOrAll.imp_right fun all => ⟨short, all⟩
  exact State.gives_of .fetchNotices (fun _ => rfl) rfl (answerFetchNotices_of_split parts waiting)

/-- Settles O51, flag by flag; the counters that clearing leaves are those of a full reset (R166, R167, R183). -/
theorem countersAreSnapshotAndCleared : Obligations.CountersAreSnapshotAndCleared := fun _ =>
  ⟨fun clear h => State.gives_of (.snapshotCounters clear) (fun _ => rfl) rfl (answerSnapshotCounters_above h),
    State.gives_of (.snapshotCounters 0) (fun _ => rfl) rfl (answerSnapshotCounters_no _),
    Counters.zero, Counters.zero_all_zero,
    State.gives_of (.snapshotCounters 1) (fun _ => rfl) rfl (answerSnapshotCounters_yes _),
    State.gives_of .clearCounters (fun _ => rfl) rfl rfl⟩

end Sys2Proof.Machine
end

section
/-! What a compound operation keeps when its parts keep it: edges, frame reports and lost orders; and, of a property that
does not look at the Transport Controller, everything that TC does. -/

namespace Sys2Proof.Machine

variable {P : Device → Prop}

/-! ### Edges, reports and lost orders (R72 to R80, R88 to R99) -/

/-- A property of the device that every part of an edge, of a frame report and of a lost order keeps. -/
structure Steady (P : Device → Prop) : Prop where
  post : ∀ kind subject detail d, P d → P (d.post kind subject detail)
  count : ∀ k d, P d → P (d.count k)
  finding : ∀ f d, P d → P (d.finding f)
  latch : ∀ x (d : Device), P d → P { d with capstan := x }
  tracker : ∀ f d, P d → P (d.setTracker f)
  escalate : ∀ n d, P d → P (d.escalate n)
  askEnd : ∀ cause d, P d → P (d.askEnd cause)
  enterFault : ∀ cause d, P d → P (d.enterFault cause)
  boundary : ∀ handed d, P d → P (d.boundary handed)
  issue : ∀ frame d, d.cu.orders.length < 8 → P d → P (d.issue frame)
  retire : ∀ q (d : Device), P d → P { d with cu.orders := d.cu.orders.eraseP q }
  gaps : ∀ n (d : Device), n < 8 → P d → P { d with cu.gaps := n }
  resolveGaps : ∀ frame d, P d → P (d.resolveGaps frame)
  takeStatistics : ∀ mean base (d : Device), P d → P (d.takeStatistics mean base)
  clipped : ∀ i (d : Device), P d →
    P (d.setShots (d.gu.shots.modify i fun s => { s with clipRisk := bump16 s.clipRisk }))

namespace Steady

theorem raiseGaps (k : Steady P) {d : Device} (h : P d) : P d.raiseGaps := by
  obtain ⟨few, e⟩ | ⟨-, e⟩ := d.raiseGaps_cases <;> rw [e]
  · exact k.gaps _ _ (by omega) h
  · exact k.askEnd _ _ (k.gaps _ _ (by omega) h)

theorem handFrame (k : Steady P) (frame : Nat) {d : Device} (h : P d) : P (d.handFrame frame) := by
  rw [Device.handFrame]
  split
  · exact k.issue _ _ ‹_› h
  · exact k.raiseGaps (k.count _ _ (k.finding _ _ h))

theorem countForward (k : Steady P) {d : Device} (h : P d) : P d.countForward := by
  simp only [Device.countForward]
  repeat' split
  · exact h
  · exact k.tracker _ _ h
  · exact k.boundary _ _ (k.handFrame _ (k.tracker _ _ h))
  · exact k.boundary _ _ (k.tracker _ _ h)
  · exact k.tracker _ _ h

theorem countMany (k : Steady P) (n : Nat) {d : Device} (h : P d) : P (d.countMany n) := by
  induction n generalizing d with
  | zero => exact h
  | succ n ih => exact ih (k.countForward h)

theorem countBackward (k : Steady P) {d : Device} (h : P d) : P d.countBackward := by
  simp only [Device.countBackward]
  repeat' split
  · exact h
  · exact k.tracker _ _ h
  · exact k.tracker _ _ h
  · exact k.boundary _ _ (k.tracker _ _ h)

theorem measured (k : Steady P) (n : Nat) {d : Device} (h : P d) : P (d.measured n) := by
  simp only [Device.measured]
  repeat' split
  · exact h
  · exact k.escalate _ _ (k.tracker _ _ h)
  · exact k.tracker _ _ h

theorem goodEdge (k : Steady P) (t : Tracker) (position : BitVec 32) (n : Nat) {d : Device} (h : P d) :
    P (d.goodEdge t position n) := by
  simp only [Device.goodEdge]
  split
  · exact k.countForward (k.measured _ (k.tracker _ _ (k.tracker _ _ h)))
  · exact k.countForward (k.tracker _ _ h)

theorem gapEdge (k : Steady P) (t : Tracker) (position : BitVec 32) (n : Nat) {d : Device} (h : P d) :
    P (d.gapEdge t position n) := by
  have found : P (if 1 ≤ missing t.pitch n then d.finding (missingFinding (missing t.pitch n) t.head) else d) := by
    split
    · exact k.finding _ _ h
    · exact h
  rw [Device.gapEdge]
  refine k.countMany _ (k.tracker _ _ ?_)
  split
  · exact k.enterFault _ _ found
  · exact found

theorem forwardEdge (k : Steady P) (t : Tracker) (position : BitVec 32) {d : Device} (h : P d) :
    P (d.forwardEdge t position) := by
  simp only [Device.forwardEdge]
  repeat' split
  · exact k.countForward (k.tracker _ _ h)
  · exact h
  · exact k.finding _ _ h
  · exact k.goodEdge _ _ _ h
  · exact k.gapEdge _ _ _ h

theorem edge (k : Steady P) (position : BitVec 32) {d : Device} (h : P d) : P (d.edge position) := by
  rw [Device.edge]
  repeat' split
  · exact h
  · exact h
  · exact k.forwardEdge _ _ (k.latch _ _ h)
  · exact k.countBackward (k.latch _ _ h)

theorem reportFindings (k : Steady P) (r : FrameReport) (frame : Nat) {d : Device} (h : P d) :
    P (d.reportFindings r frame) := by
  have optional : ∀ (c : Prop) [Decidable c] f (d : Device), P d → P (if c then d.finding f else d) := by
    intro c _ f d h
    split
    · exact k.finding _ _ h
    · exact h
  exact optional _ _ _ (optional _ _ _ (optional _ _ _ h))

theorem matched (k : Steady P) (r : FrameReport) (o : Order) {d : Device} (h : P d) : P (d.matched r o) := by
  have found := k.reportFindings r o.frame h
  have resolved : P (if r.focusFail then d.reportFindings r o.frame
      else (d.reportFindings r o.frame).resolveGaps o.frame) := by
    split
    · exact found
    · exact k.resolveGaps _ _ found
  simp only [Device.matched, Device.clipCheck]
  generalize (if r.focusFail then d.reportFindings r o.frame
      else (d.reportFindings r o.frame).resolveGaps o.frame) = e at resolved ⊢
  have taken : P (if e.excluded r o.frame then e else e.takeStatistics r.mean r.base) := by
    split
    · exact resolved
    · exact k.takeStatistics _ _ _ resolved
  split
  · exact k.post _ _ _ _ (k.clipped _ _ taken)
  · exact taken

theorem report (k : Steady P) (r : FrameReport) {d : Device} (h : P d) : P (d.report r) := by
  rw [Device.report]
  split
  · exact k.matched _ _ (k.gaps 0 _ (by omega) (k.retire _ _ h))
  · exact k.post _ _ _ _ (k.count _ _ h)

theorem reportExpires (k : Steady P) (tag : Byte) {d : Device} (h : P d) : P (d.reportExpires tag) := by
  rw [Device.reportExpires]
  repeat' split
  · exact k.raiseGaps (k.post _ _ _ _ (k.finding _ _ (k.count _ _ (k.retire _ _ h))))
  · exact h
  · exact h

end Steady

/-! ### What TC does (R48 to R66) -/

/-- A property of the device that postings keep and that does not look at TC. -/
structure Blind (P : Device → Prop) : Prop where
  tc : ∀ t (d : Device), P d → P { d with tc := t }
  post : ∀ kind subject detail d, P d → P (d.post kind subject detail)

namespace Blind

theorem endPass (k : Blind P) (cause : PassEnd) (next : TransportState) {d : Device} (h : P d) :
    P (d.endPass cause next) :=
  k.post _ _ _ _ (k.tc _ _ h)

theorem endRelaxing (k : Blind P) (cause : PendingEnd) {d : Device} (h : P d) : P (d.endRelaxing cause) :=
  k.tc _ _ (k.endPass _ _ h)

theorem askEnd (k : Blind P) (cause : PendingEnd) {d : Device} (h : P d) : P (d.askEnd cause) := by
  obtain e | ⟨-, -, e⟩ | ⟨-, e⟩ := d.askEnd_cases cause <;> rw [e]
  · exact h
  · exact k.tc _ _ h
  · exact k.endRelaxing _ h

theorem enterFault (k : Blind P) (cause : FaultCause) {d : Device} (h : P d) : P (d.enterFault cause) := by
  have posted := k.post .transportFault cause.code d.head _ (k.tc
    { d.tc with
      strainLine := false, threadingDue := none, relaxDue := none, strainDue := none, slipDue := none
      watch := .inactive, incident := some (d.tc.incident.getD (d.incidentNow cause))
      incidentCount := bump8 d.tc.incidentCount } _ h)
  rw [Device.enterFault]
  refine k.tc _ _ ?_
  split
  · exact k.endPass _ _ posted
  · exact posted

theorem boundary (k : Blind P) (handed : Option Nat) {d : Device} (h : P d) : P (d.boundary handed) := by
  obtain e | ⟨_, -, e⟩ := d.boundary_cases handed <;> rw [e]
  · exact k.tc _ _ h
  · exact k.endPass _ _ (k.tc _ _ h)

theorem trip (k : Blind P) {d : Device} (h : P d) : P d.trip := by
  simp only [Device.trip, Device.enterRelaxing]
  repeat' split
  · exact k.endRelaxing _ (k.tc _ _ h)
  · exact k.tc _ _ h
  · exact k.enterFault _ h

theorem sampleLimit (k : Blind P) (f t : Nat) {d : Device} (h : P d) : P (d.sampleLimit f t) := by
  simp only [Device.sampleLimit]
  repeat' split
  all_goals first | exact h | exact k.tc _ _ h

theorem sampleIntegrator (k : Blind P) {d : Device} (h : P d) : P d.sampleIntegrator := by
  simp only [Device.sampleIntegrator]
  repeat' split
  all_goals first | exact k.trip (k.tc _ _ h) | exact k.tc _ _ h

theorem sampleResume (k : Blind P) (f t : Nat) {d : Device} (h : P d) : P (d.sampleResume f t) := by
  simp only [Device.sampleResume]
  repeat' split
  all_goals first | exact h | exact k.tc _ _ h

theorem sampleSlip (k : Blind P) (f t : Nat) {d : Device} (h : P d) : P (d.sampleSlip f t) := by
  simp only [Device.sampleSlip]
  repeat' split
  all_goals first | exact h | exact k.tc _ _ h

theorem sample (k : Blind P) (f t : Nat) {d : Device} (h : P d) : P (d.sample f t) :=
  k.sampleSlip _ _ (k.sampleResume _ _ (k.sampleIntegrator (k.sampleLimit _ _ (k.tc _ _ h))))

theorem startThreading (k : Blind P) {d : Device} (h : P d) : P d.startThreading := k.tc _ _ h

theorem filmRises (k : Blind P) {d : Device} (h : P d) : P d.filmRises := by
  have high := k.tc { d.tc with filmPresent := true } _ h
  simp only [Device.filmRises]
  repeat' split
  · exact h
  · exact k.startThreading high
  · exact k.post _ _ _ _ high
  all_goals exact high

theorem filmFalls (k : Blind P) {d : Device} (h : P d) : P d.filmFalls := by
  simp only [Device.filmFalls]
  repeat' split
  all_goals
    first | exact h | exact k.enterFault _ (k.tc _ _ h) | exact k.tc _ _ h | exact k.post _ _ _ _ (k.tc _ _ h)

theorem threadingExpires (k : Blind P) {d : Device} (h : P d) : P d.threadingExpires := by
  rw [Device.threadingExpires]
  repeat' split
  · exact k.post _ _ _ _ (k.tc _ _ h)
  · exact k.enterFault _ h
  · exact h

theorem relaxExpires (k : Blind P) {d : Device} (h : P d) : P d.relaxExpires := by
  rw [Device.relaxExpires]
  split
  · exact k.tc _ _ h
  · exact h

theorem strainExpires (k : Blind P) {d : Device} (h : P d) : P d.strainExpires := by
  rw [Device.strainExpires]
  split
  · exact k.post _ _ _ _ (k.tc _ _ h)
  · exact h

theorem slipExpires (k : Blind P) (finding : ∀ f d, P d → P (d.finding f)) {d : Device} (h : P d) :
    P d.slipExpires := by
  simp only [Device.slipExpires]
  repeat' split
  · exact k.enterFault _ (finding _ _ (k.tc _ _ h))
  · exact k.post _ _ _ _ (k.tc _ _ (finding _ _ (k.tc _ _ h)))
  · exact h

end Blind

/-- A property that does not look at TC is kept by every command when the other blocks' operations keep it. -/
structure Calm (P : Device → Prop) : Prop extends Blind P where
  answer : ∀ h q d, P d → P (carryOut h q d).1
  count : ∀ k d, P d → P (d.count k)
  finding : ∀ f d, P d → P (d.finding f)
  tracker : ∀ f d, P d → P (d.setTracker f)
  latch : ∀ x (d : Device), P d → P { d with capstan := x }
  escalate : ∀ n d, P d → P (d.escalate n)
  issue : ∀ frame d, d.cu.orders.length < 8 → P d → P (d.issue frame)
  retire : ∀ q (d : Device), P d → P { d with cu.orders := d.cu.orders.eraseP q }
  gaps : ∀ n (d : Device), n < 8 → P d → P { d with cu.gaps := n }
  resolveGaps : ∀ frame d, P d → P (d.resolveGaps frame)
  takeStatistics : ∀ mean base (d : Device), P d → P (d.takeStatistics mean base)
  clipped : ∀ i (d : Device), P d →
    P (d.setShots (d.gu.shots.modify i fun s => { s with clipRisk := bump16 s.clipRisk }))
  acclimatized : ∀ id d, P d → P (d.acclimatized id)
  time : ∀ t (d : Device), P d → P { d with time := t }
  draws : ∀ n (d : Device), P d → P { d with freeDraws := n }
  orderSent : ∀ d, P d → P d.orderSent
  port : ∀ (d : Device) parser low, P d → P { d with pipe.parser := parser, pipe.lineLow := low }

namespace Calm

theorem steady (k : Calm P) : Steady P where
  post := k.post
  count := k.count
  finding := k.finding
  latch := k.latch
  tracker := k.tracker
  escalate := k.escalate
  askEnd _ _ h := k.toBlind.askEnd _ h
  enterFault _ _ h := k.toBlind.enterFault _ h
  boundary _ _ h := k.toBlind.boundary _ h
  issue := k.issue
  retire := k.retire
  gaps := k.gaps
  resolveGaps := k.resolveGaps
  takeStatistics := k.takeStatistics
  clipped := k.clipped

theorem kept (k : Calm P) : Kept P where
  answer := k.answer
  count := k.count
  micro _ h := k.time _ _ h
  sample _ _ _ h := k.toBlind.sample _ _ h
  filmRises _ h := k.toBlind.filmRises h
  filmFalls _ h := k.toBlind.filmFalls h
  edge _ _ h := k.steady.edge _ h
  acclimatized := k.acclimatized
  reportExpires _ _ h := k.steady.reportExpires _ h
  threadingExpires _ h := k.toBlind.threadingExpires h
  relaxExpires _ h := k.toBlind.relaxExpires h
  strainExpires _ h := k.toBlind.strainExpires h
  slipExpires _ h := k.toBlind.slipExpires k.finding h
  orderSent := k.orderSent
  report _ _ h := k.steady.report _ h
  port := k.port

theorem milli (k : Calm P) {d : Device} (h : P d) : P d.milli := by
  rw [Device.milli]
  split
  · exact k.time _ _ h
  · have moved := k.time { d.time with runCounter := (Config.runCounterPastEnd d.freeDraws).toNat } _ h
    exact k.draws _ _ moved

/-- A calm property that a fresh device has is kept by every command. -/
theorem exec (k : Calm P) (fresh : P Device.reset) {c : Instr} {s t : State} (he : exec c s = .next t) (h : P s.dev) :
    P t.dev :=
  k.kept.exec c s t (fun _ _ => k.milli) (fun _ _ _ film low draws =>
    have filmed := k.tc { Transport.reset with filmPresent := film } _ fresh
    have lined := k.port _ .hunt low filmed
    k.draws draws _ lined) he h

end Calm

end Sys2Proof.Machine
end

section
/-! Notices and counters: whatever postings and counts keep is kept by every command (R160, R165). -/

namespace Sys2Proof.Machine

/-- SET_ZONE_POLICY is refused, or replaces a mask, notices some reels and offers some slots (R28). -/
theorem answerSetZonePolicy_cases (cls mask : Byte) (d : Device) :
    (answerSetZonePolicy cls mask d).1 = d
    ∨ ∃ (cls' : DecayClass) (ids slots : List Nat), (answerSetZonePolicy cls mask d).1
      = slots.foldl Device.offerIfFree (ids.foldl (fun d id => d.noticeMisplaced id)
          { d with vault.masks := d.vault.masks.set cls' (mask.setWidth 4) }) := by
  rw [answerSetZonePolicy]
  split
  · exact .inl rfl
  · split
    · exact .inl rfl
    · exact .inr ⟨_, _, List.range 256, by with_reducible rfl⟩

/-- A property of the notice list and the counters that a posting, a count, and the loss of the oldest notices or of all
counts keep. -/
structure FlagLaw (P : Device → Prop) : Prop where
  post : ∀ kind subject detail d, P d → P (d.post kind subject detail)
  count : ∀ k d, P d → P (d.count k)
  less : ∀ {d e : Device}, P d → e.nl.notices <:+ d.nl.notices →
    e.counters = d.counters ∨ e.counters = Counters.zero → P e

namespace FlagLaw

variable {P : Device → Prop} {d e : Device}

theorem congr (k : FlagLaw P) (h : P d) (hn : e.nl = d.nl) (hc : e.counters = d.counters) : P e :=
  k.less h (by rw [hn]) (.inl hc)

/-! ### Findings and queues -/

theorem enqueue (k : FlagLaw P) (p : Priority) (r : Defect) (h : P d) : P (d.enqueue p r) := by
  obtain ⟨-, e⟩ | ⟨-, e⟩ := d.enqueue_cases p r <;> rw [e]
  · exact k.congr h rfl rfl
  · exact k.post _ _ _ _ (k.count _ _ (k.congr h rfl rfl))

theorem autoQueue (k : FlagLaw P) (id : Nat) (h : P d) : P (d.autoQueue id) := by
  obtain e | ⟨r, -, -, e⟩ := d.autoQueue_cases id <;> rw [e]
  · exact h
  · exact k.enqueue _ _ h

theorem record (k : FlagLaw P) (f : Finding) (h : P d) : P (d.record f).1 := by
  obtain ⟨r, g, -, -, e⟩ | ⟨-, r, -, -, -, e⟩ | ⟨-, e⟩ := d.record_cases f <;> rw [e]
  · exact k.autoQueue _ (k.congr h rfl rfl)
  · exact k.autoQueue _ (k.congr h rfl rfl)
  · exact k.post _ _ _ _ (k.count _ _ h)

theorem finding (k : FlagLaw P) (f : Finding) (h : P d) : P (d.finding f) := by
  obtain e | e := d.finding_cases f <;> rw [e]
  · exact h
  · exact k.record _ h

theorem addRun (k : FlagLaw P) (f : Finding) (n : Nat) (h : P d) : P (d.addRun f n).1 := by
  induction n generalizing f d with
  | zero => exact h
  | succ n ih => exact ih _ (k.record _ h)

/-! ### Reels and slots -/

theorem offer (k : FlagLaw P) (slot : Nat) (h : P d) : P (d.offer slot) := by
  obtain e | ⟨id, r, -, -, -, e⟩ := d.offer_cases slot <;> rw [e]
  · exact h
  · exact k.post _ _ _ _ (k.congr h rfl rfl)

theorem sweep (k : FlagLaw P) (slots : List Nat) (h : P d) : P (slots.foldl Device.offerIfFree d) := by
  induction slots generalizing d with
  | nil => exact h
  | cons slot slots ih =>
    refine ih ?_
    rw [Device.offerIfFree]
    split
    · exact k.offer _ h
    · exact h

theorem noticeMisplaced (k : FlagLaw P) (id : Nat) (h : P d) : P (d.noticeMisplaced id) := by
  rw [Device.noticeMisplaced]
  repeat' split
  · exact h
  · exact k.post _ _ _ _ h
  · exact h
  · exact h

theorem misplacedWalk (k : FlagLaw P) (ids : List Nat) (h : P d) :
    P (ids.foldl (fun d id => d.noticeMisplaced id) d) := by
  induction ids generalizing d with
  | nil => exact h
  | cons id ids ih => exact ih (k.noticeMisplaced _ h)

theorem sendBack (k : FlagLaw P) (r : Reel) (h : P d) : P (d.sendBack r) := by
  rw [Device.sendBack]
  split
  · exact k.congr h rfl rfl
  · exact k.post _ _ _ _ (k.congr h rfl rfl)

theorem emptySession (k : FlagLaw P) (h : P d) : P d.emptySession := k.congr h rfl rfl

theorem endSession (k : FlagLaw P) (id : Nat) (graded : Bool) (deferred : Nat) (h : P d) :
    P (d.endSession id graded deferred) := by
  simp only [Device.endSession]
  split
  · exact k.emptySession (k.sendBack _ (k.congr h rfl rfl))
  · exact k.emptySession (k.congr h rfl rfl)

theorem blind (k : FlagLaw P) : Blind P where
  tc _ _ h := k.congr h rfl rfl
  post := k.post

theorem escalate (k : FlagLaw P) (n : Nat) (h : P d) : P (d.escalate n) := by
  have raised : ∀ id f g kind subject detail,
      P (((d.setReel id f).setReel id g).post kind subject detail) :=
    fun _ _ _ _ _ _ => k.post _ _ _ _ (k.congr h rfl rfl)
  simp only [Device.escalate]
  repeat' split
  · exact h
  · exact k.congr h rfl rfl
  · exact k.congr h rfl rfl
  · exact k.blind.askEnd _ (raised _ _ _ _ _ _)
  · exact raised _ _ _ _ _ _

/-! ### Answers -/

theorem answer (k : FlagLaw P) (l : HostLink) (q : Request) (h : P d) : P (carryOut l q d).1 := by
  cases q with
  | restartSuite => exact k.less h List.nil_suffix (.inr rfl)
  | clearCounters => exact k.less h List.suffix_rfl (.inr rfl)
  | fetchNotices => exact k.less h (List.drop_suffix _ _) (.inl rfl)
  | snapshotCounters clear =>
    simp only [carryOut, answerSnapshotCounters, refuse]
    split
    · exact h
    · refine k.less h List.suffix_rfl ?_
      split
      · exact .inr rfl
      · exact .inl rfl
  | setAttentionMask mask =>
    simp only [carryOut, answerSetAttentionMask, refuse]
    split
    · exact h
    · exact k.less h List.suffix_rfl (.inl rfl)
  | enrolReel op =>
    simp only [carryOut, answerEnrolReel, refuse]
    repeat' split
    all_goals first | exact h | exact k.congr h rfl rfl | exact k.noticeMisplaced _ (k.congr h rfl rfl)
  | withdrawReel id =>
    simp only [carryOut, answerWithdrawReel, withReel, refuse]
    repeat' split
    all_goals first | exact h | exact k.congr h rfl rfl | exact k.offer _ (k.congr h rfl rfl)
  | reelArrived id =>
    simp only [carryOut, answerReelArrived, withReel, refuse]
    repeat' split
    all_goals first | exact h | exact k.offer _ (k.congr h rfl rfl)
  | reelPlaced id slot =>
    simp only [carryOut, answerReelPlaced, withReel, withSlot, refuse]
    repeat' split
    all_goals first | exact h | exact k.congr h rfl rfl | exact k.offer _ (k.congr h rfl rfl)
  | recallReel id =>
    simp only [carryOut, answerRecallReel, withReel, refuse]
    repeat' split
    all_goals first | exact h | exact k.congr h rfl rfl | exact k.offer _ (k.congr h rfl rfl)
  | unloadReel force =>
    simp only [carryOut, answerUnloadReel, refuse, refuseWith]
    repeat' split
    all_goals first | exact h | exact k.endSession _ _ _ h | exact k.endSession _ _ _ (k.congr h rfl rfl)
  | setCondition op =>
    simp only [carryOut, answerSetCondition, withReel, refuse]
    repeat' split
    all_goals first | exact h | exact k.noticeMisplaced _ (k.congr h rfl rfl)
  | openSlot slot =>
    simp only [carryOut, answerOpenSlot, withSlot, refuse, refuseWith]
    repeat' split
    all_goals first | exact h | exact k.offer _ (k.congr h rfl rfl)
  | setZonePolicy cls mask =>
    obtain e | ⟨_, ids, slots, e⟩ := answerSetZonePolicy_cases cls mask d <;> rw [carryOut, e]
    · exact h
    · exact k.sweep _ (k.misplacedWalk _ (k.congr h rfl rfl))
  | stop =>
    simp only [carryOut, answerStop, refuse]
    split
    all_goals first | exact h | exact k.blind.askEnd _ h
  | addDefect op =>
    simp only [carryOut, answerAddDefect, withFrame, refuse]
    repeat' split
    all_goals first | exact h | exact k.addRun _ _ h
  | queueDefect id priority =>
    simp only [carryOut, answerQueueDefect, withDefect, refuse, refuseWith]
    repeat' split
    all_goals first | exact h | exact k.enqueue _ _ h
  | _ => exact k.congr h (by simp [carryOut]) (by simp [carryOut])

theorem calm (k : FlagLaw P) : Calm P where
  toBlind := k.blind
  answer _ _ _ h := k.answer _ _ h
  count := k.count
  finding _ _ h := k.finding _ h
  tracker _ _ h := k.congr h rfl rfl
  latch _ _ h := k.congr h rfl rfl
  escalate _ _ h := k.escalate _ h
  issue _ _ _ h := k.count _ _ (k.congr h rfl rfl)
  retire _ _ h := k.congr h rfl rfl
  gaps _ _ _ h := k.congr h rfl rfl
  resolveGaps _ _ h := k.congr h rfl rfl
  takeStatistics _ _ _ h := k.congr h rfl rfl
  clipped _ _ h := k.congr h rfl rfl
  acclimatized id d h := by
    rw [Device.acclimatized]
    repeat' split
    · exact k.post _ _ _ _ (k.congr h rfl rfl)
    · exact h
    · exact h
  time _ _ h := k.congr h rfl rfl
  draws _ _ h := k.congr h rfl rfl
  orderSent _ h := k.congr h rfl rfl
  port _ _ _ h := k.congr h rfl rfl

end FlagLaw

/-! ### The two invariants -/

/-- A posting adds no second record of one kind and subject, and none to a full list. -/
theorem NoticeList.Inv.post {l : NoticeList} (h : l.Inv) (now : SuiteTime) (kind : NoticeKind) (subject detail : Nat) :
    (l.post now kind subject detail).Inv := by
  obtain ⟨short, once⟩ := h
  refine ⟨l.post_length now kind subject detail short, ?_⟩
  obtain same | ⟨-, new, joined⟩ := l.post_cases now kind subject detail
  · rwa [same]
  · rw [joined, List.map_append, List.map_singleton]
    exact List.nodup_append_comm.mp (List.nodup_cons.mpr ⟨new, once⟩)

theorem NoticeList.Inv.suffix {l m : NoticeList} (h : l.Inv) (hs : m.notices <:+ l.notices) : m.Inv :=
  ⟨hs.length_le.trans h.1, (hs.sublist.map _).nodup h.2⟩

theorem noticesLaw : FlagLaw fun d => d.nl.Inv where
  post _ _ _ _ h := h.post _ _ _ _
  count _ _ h := h
  less h hs _ := h.suffix hs

theorem countersLaw : FlagLaw fun d => d.counters.Inv where
  post _ _ _ _ h := h
  count k d h := d.counters.bump_le k h
  less := by
    rintro d e h - (same | zero)
    · rwa [same]
    · rw [zero, Counters.Inv]
      decide

/-- Settles O55: postings and counts are all that reaches either (R160, R165). -/
theorem noticesAndCountersStayInBounds : Obligations.NoticesAndCountersStayInBounds := fun _ _ _ he =>
  ⟨noticesLaw.calm.exec ⟨by decide, by decide⟩ he, countersLaw.calm.exec (by rw [Counters.Inv]; decide) he⟩

end Sys2Proof.Machine
end

section
/-! Capture orders and the pipeline port: tags, gaps, the sender's list and the port's parser (R86, R88, R91, R178,
R179). -/

namespace Sys2Proof.Machine

/-! ### Tags (R88) -/

/-- Fewer orders than values tried cannot hold them all, so the tag given is held by none. -/
theorem freeTag_fresh {orders : List Order} (few : orders.length < 8) (t : Byte) :
    ∀ o ∈ orders, o.tag ≠ freeTag orders 255 t := by
  obtain ⟨k, -, e, held, rfl | fresh⟩ := freeTag_cases orders 255 t
  · have tried : ((List.range 255).map fun j => t + BitVec.ofNat 8 j).Nodup := by
      refine List.Nodup.map_on (fun i hi j hj hij => ?_) List.nodup_range
      rw [List.mem_range] at hi hj
      have := congrArg BitVec.toNat (BitVec.add_right_inj t |>.mp hij)
      simp only [BitVec.toNat_ofNat] at this
      omega
    have allHeld : ((List.range 255).map fun j => t + BitVec.ofNat 8 j) ⊆ orders.map (·.tag) := by
      intro x hx
      obtain ⟨j, hj, rfl⟩ := List.mem_map.mp hx
      obtain ⟨o, ho, e⟩ := held j (List.mem_range.mp hj)
      exact List.mem_map.mpr ⟨o, ho, e⟩
    have := (tried.subperm allHeld).length_le
    simp only [List.length_map, List.length_range] at this
    omega
  · rwa [e]

/-! ### Orders and gaps (R86, R88, R91) -/

namespace Capture.Inv

variable {u v : Capture}

theorem sublist (h : u.Inv) (orders : v.orders.Sublist u.orders) (gaps : v.gaps < 8) : v.Inv :=
  ⟨orders.length_le.trans h.1, (orders.map _).nodup h.2.1, gaps⟩

theorem of_none (orders : v.orders = []) (gaps : v.gaps = 0) : v.Inv := by
  simp [Inv, orders, gaps]

theorem append (h : u.Inv) {o : Order} (few : u.orders.length < 8) (fresh : ∀ x ∈ u.orders, x.tag ≠ o.tag)
    (orders : v.orders = u.orders ++ [o]) (gaps : v.gaps = u.gaps) : v.Inv := by
  obtain ⟨-, once, below⟩ := h
  refine ⟨by rw [orders, List.length_append]; exact few, ?_, gaps ▸ below⟩
  rw [orders, List.map_append, List.map_singleton]
  have new : o.tag ∉ u.orders.map (·.tag) := by
    rw [List.mem_map]
    rintro ⟨x, hx, e⟩
    exact fresh x hx e
  exact List.nodup_append_comm.mp (List.nodup_cons.mpr ⟨new, once⟩)

end Capture.Inv

theorem carryOut_captureInv (l : HostLink) (q : Request) {d : Device} (h : d.cu.Inv) : (carryOut l q d).1.cu.Inv := by
  cases q with
  | restartSuite => exact .of_none rfl rfl
  | setCapture => exact h
  | unloadReel force =>
    have ended : ∀ (id : Nat) (graded : Bool) (deferred : Nat) (d : Device),
        (d.endSession id graded deferred).cu.Inv := by
      intro id graded deferred d
      rw [Device.endSession]
      split
      · refine .of_none ?_ ?_ <;> simp [Device.discardOrders]
      · exact .of_none rfl rfl
    simp only [carryOut, answerUnloadReel, refuse, refuseWith]
    repeat' split
    all_goals first | exact h | exact ended _ _ _ _
  | runPass first last speed =>
    have started : ∀ r p, (d.startPass r p).cu.Inv := by
      intro r p
      have e : (d.startPass r p).cu = { d.cu with gaps := 0 } := by simp [Device.startPass]
      exact e ▸ h.sublist (List.Sublist.refl _) (by decide : 0 < 8)
    simp only [carryOut, answerRunPass, withFrame, refuse]
    repeat' split
    all_goals first | exact h | exact started _ _
  | _ => simpa [carryOut] using h

/-- Only an order issued joins the list, with a tag that no other holds. -/
theorem captureCalm : Calm fun d => d.cu.Inv where
  tc _ _ h := h
  post _ _ _ _ h := h
  answer _ _ _ h := carryOut_captureInv _ _ h
  count _ _ h := h
  finding _ _ h := by simpa using h
  tracker _ _ h := h
  latch _ _ h := h
  escalate _ _ h := by simpa using h
  issue _ _ few h := h.append few (freeTag_fresh few _) rfl rfl
  retire _ _ h := h.sublist List.eraseP_sublist h.2.2
  gaps _ _ few h := h.sublist (List.Sublist.refl _) few
  resolveGaps _ _ h := h
  takeStatistics _ _ _ h := h
  clipped _ _ h := h
  acclimatized _ _ h := by simpa using h
  time _ _ h := h
  draws _ _ h := h
  orderSent _ h := h
  port _ _ _ h := h

/-! ### The sender (R92, R179) -/

/-- An order waits only behind a frame in progress. -/
def PipelinePort.SenderInv (p : PipelinePort) : Prop := p.sending = none → p.waiting = []

theorem PipelinePort.hand_senderInv (o : Order) (p : PipelinePort) : (p.hand o).SenderInv := by
  obtain ⟨busy, e⟩ | ⟨-, -, e⟩ | ⟨-, _, _, -, e⟩ := p.hand_cases o <;> rw [e] <;> intro idle
  · exact absurd idle (Option.isSome_iff_ne_none.mp busy)
  · exact nomatch idle
  · exact nomatch idle

theorem PipelinePort.SenderInv.sent {p : PipelinePort} (h : p.SenderInv) : p.sent.SenderInv := by
  obtain ⟨-, e⟩ | ⟨-, none, e⟩ | ⟨-, _, _, -, e⟩ := p.sent_cases <;> rw [e]
  · exact h
  · exact fun _ => none
  · exact fun idle => nomatch idle

theorem carryOut_senderInv (l : HostLink) (q : Request) {d : Device} (h : d.pipe.SenderInv) :
    (carryOut l q d).1.pipe.SenderInv := by
  cases q with
  | restartSuite => exact fun _ => rfl
  | _ => simpa [carryOut] using h

theorem senderCalm : Calm fun d => d.pipe.SenderInv where
  tc _ _ h := h
  post _ _ _ _ h := h
  answer _ _ _ h := carryOut_senderInv _ _ h
  count _ _ h := h
  finding _ _ h := by simpa using h
  tracker _ _ h := h
  latch _ _ h := h
  escalate _ _ h := by simpa using h
  issue _ _ _ _ := PipelinePort.hand_senderInv _ _
  retire _ _ h := h
  gaps _ _ _ h := h
  resolveGaps _ _ h := h
  takeStatistics _ _ _ h := h
  clipped _ _ h := h
  acclimatized _ _ h := by simpa using h
  time _ _ h := h
  draws _ _ h := h
  orderSent _ h := h.sent
  port _ _ _ h := h

/-! ### The port's parser (R178) -/

theorem PipelinePort.hand_parser (o : Order) (p : PipelinePort) : (p.hand o).parser = p.parser := by
  obtain ⟨-, e⟩ | ⟨-, -, e⟩ | ⟨-, _, _, -, e⟩ := p.hand_cases o <;> rw [e]

theorem PipelinePort.sent_parser (p : PipelinePort) : p.sent.parser = p.parser := by
  obtain ⟨-, e⟩ | ⟨-, -, e⟩ | ⟨-, _, _, -, e⟩ := p.sent_cases <;> rw [e]

/-- Where the parser stands: every operation but the port's own leaves it. -/
def Device.ParserAt (p : Parser) (d : Device) : Prop := d.pipe.parser = p

namespace Device.ParserAt

variable {p : Parser} {d : Device} {s : State}

theorem retime (time : TimeBase) (h : d.ParserAt p) : ({ d with time := time } : Device).ParserAt p := h

theorem carryOut (l : HostLink) (q : Request) (h : d.ParserAt p) : (carryOut l q d).1.ParserAt p := by
  cases q with
  | restartSuite => exact h
  | _ => simpa [Machine.carryOut, ParserAt] using h

theorem dispatch (q : HostRequest) (h : s.dev.ParserAt p) : (s.dispatch q).dev.ParserAt p := by
  obtain ⟨d, replies, e, rfl | ⟨r, rfl⟩, -⟩ := s.dispatch_cases q <;> rw [e]
  · exact h
  · exact h.carryOut _ _

theorem serve (h : s.dev.ParserAt p) : s.serve.dev.ParserAt p :=
  State.serve_induct (P := fun s => s.dev.ParserAt p) (fun q _ _ _ _ h => dispatch q h) s h

theorem offer (q : HostRequest) (h : s.dev.ParserAt p) : (s.offer q).dev.ParserAt p := by
  obtain ⟨-, e⟩ | ⟨-, e⟩ := s.offer_cases q <;> rw [e] <;> exact h

theorem hostChar (c : LineChar) (h : s.dev.ParserAt p) : (s.hostChar c).dev.ParserAt p := by
  simp only [State.hostChar, State.hostData]
  repeat' split
  all_goals first | exact h | exact serve (offer _ h)

theorem hostChars (chars : List LineChar) (h : s.dev.ParserAt p) : (s.hostChars chars).dev.ParserAt p := by
  induction chars generalizing s with
  | nil => exact h
  | cons c chars ih => exact ih (h.hostChar c)

theorem hostDiscard (k : Counter) (h : s.dev.ParserAt p) : (s.hostDiscard k).dev.ParserAt p := by
  rw [State.hostDiscard]
  split <;> exact h

theorem hostCharError (h : s.dev.ParserAt p) : s.hostCharError.dev.ParserAt p := by
  rw [State.hostCharError]
  split
  · exact h.hostDiscard _
  · exact h

theorem completeReply (h : s.dev.ParserAt p) : s.completeReply.dev.ParserAt p := by
  rw [State.completeReply]
  split
  · exact h
  · exact serve h

theorem collide (n : Nat) (h : s.dev.ParserAt p) : (s.collide n).dev.ParserAt p := by
  rw [State.collide]
  repeat' split
  all_goals first | exact h | exact serve h

theorem steady : Steady (Device.ParserAt p) where
  post _ _ _ _ h := h
  count _ _ h := h
  finding _ _ h := by simpa [ParserAt] using h
  latch _ _ h := h
  tracker _ _ h := h
  escalate _ _ h := by simpa [ParserAt] using h
  askEnd _ _ h := by simpa [ParserAt] using h
  enterFault _ _ h := by simpa [ParserAt] using h
  boundary _ _ h := by simpa [ParserAt] using h
  issue _ _ _ h := (PipelinePort.hand_parser _ _).trans h
  retire _ _ h := h
  gaps _ _ _ h := h
  resolveGaps _ _ h := h
  takeStatistics _ _ _ h := h
  clipped _ _ h := h

end Device.ParserAt

/-- The port's own operations leave a frame not yet whole, or none. -/
theorem Device.pipeDiscard_partial {d : Device} (h : d.pipe.parser.partial_) : d.pipeDiscard.pipe.parser.partial_ := by
  rw [Device.pipeDiscard]
  split
  · exact h
  · trivial

theorem Device.pipeFrame_hunt (tag kind : Byte) (body : List Byte) {d : Device} (h : d.ParserAt .hunt) :
    (d.pipeFrame tag kind body).ParserAt .hunt := by
  rw [Device.pipeFrame]
  split
  · simpa [ParserAt] using h
  · exact h

theorem Device.pipeData_partial (taken : List Byte) (d : Device) : (d.pipeData taken).pipe.parser.partial_ := by
  simp only [Device.pipeData]
  split
  · exact ‹frameProgress taken = .more›
  · trivial
  · trivial
  · rename_i tag kind body _
    have hunting := Device.pipeFrame_hunt tag kind body (d := { d with pipe.parser := .hunt }) rfl
    rw [hunting]
    trivial

theorem Device.pipeChar_partial (c : LineChar) {d : Device} (h : d.pipe.parser.partial_) :
    (d.pipeChar c).pipe.parser.partial_ := by
  rw [Device.pipeChar]
  repeat' split
  · exact h
  · exact (rfl : frameProgress [] = .more)
  · exact Device.pipeDiscard_partial h
  · exact h
  · exact Device.pipeData_partial _ _

theorem Device.pipeChars_partial (chars : List LineChar) {d : Device} (h : d.pipe.parser.partial_) :
    (d.pipeChars chars).pipe.parser.partial_ := by
  induction chars generalizing d with
  | nil => exact h
  | cons c chars ih => exact ih (Device.pipeChar_partial c h)

theorem Device.pipeCharError_partial {d : Device} (h : d.pipe.parser.partial_) :
    d.pipeCharError.pipe.parser.partial_ := by
  rw [Device.pipeCharError]
  split
  · exact h
  · exact Device.pipeDiscard_partial h

/-- The parser holds a frame not yet whole after every command (R178). -/
theorem exec_pipeParser {c : Instr} {s t : State} (he : exec c s = .next t) (h : s.dev.pipe.parser.partial_) :
    t.dev.pipe.parser.partial_ := by
  have left : ∀ {d : Device}, d.ParserAt s.dev.pipe.parser → d.pipe.parser.partial_ := fun same => by rwa [same]
  have here : s.dev.ParserAt s.dev.pipe.parser := rfl
  cases c <;> injection he with he <;> subst he
  case fullReset => exact (trivial : Parser.partial_ .hunt)
  case frameReport => exact Device.pipeChars_partial _ h
  case pipelineCharacterError => exact Device.pipeCharError_partial h
  case pipelineGapTimeout => exact Device.pipeDiscard_partial h
  case pipelineBreak => exact Device.pipeCharError_partial h
  case pipelineAddressOfOtherValue => exact Device.pipeChar_partial _ h
  case perforationEdge => exact left (Device.ParserAt.steady.edge _ here)
  case captureOrderSent => exact left (PipelinePort.sent_parser _)
  case requestFrame => exact left (here.hostChars _)
  case addressCharacterOfOtherValue => exact left (here.hostChar _)
  case hostCharacterError => exact left here.hostCharError
  case hostBreak => exact left here.hostCharError
  case hostGapTimeout => exact left (here.hostDiscard _)
  case replyStart =>
    rw [State.startReply]
    repeat' split
    all_goals exact h
  case replyComplete => exact left here.completeReply
  case collision => exact left (here.collide _)
  case runCounterTick =>
    rw [Device.milli]
    split <;> exact h
  case hostLineReturnsHigh => exact h
  case suiteClockTick => exact left (here.retime _)
  case pipelineLineReturnsHigh => exact h
  case tensionSample => simpa using h
  case filmPresentRises => simpa using h
  case filmPresentFalls => simpa using h
  case acclimatizationExpiry => simpa using h
  case reportDeadlineExpiry => simpa using h
  case threadingTimerExpiry => simpa using h
  case relaxTimerExpiry => simpa using h
  case strainWarningPersistenceExpiry => simpa using h
  case slipPersistenceExpiry => simpa using h
  all_goals exact left (Device.ParserAt.serve (Device.ParserAt.offer _ here))

/-- Settles O59: orders by their list's operations, waiting orders by the sender's, the parser by the port's own
characters. -/
theorem captureInvariantIsKept : Obligations.CaptureInvariantIsKept := fun _ _ _ he =>
  ⟨captureCalm.exec ⟨by decide, by decide, by decide⟩ he,
    fun ⟨sender, parser⟩ => ⟨senderCalm.exec (fun _ => rfl) he sender, exec_pipeParser he parser⟩⟩

end Sys2Proof.Machine
end

section
/-! The Transport Controller: what is present in each of its states stays as R47, R57, R59, R61 to R63 and R65 say. -/

namespace Sys2Proof.Machine

/-! ### The states without a pass -/

/-- What the invariant says where no pass is in progress: everything of a pass is gone, and the watch is off. -/
structure Transport.AtRest (t : Transport) : Prop where
  remembered : t.remembered = none
  cause : t.faultCause.isSome ↔ t.state = .fault
  pass : t.pass = none
  pendingEnd : t.pendingEnd = none
  direction : t.direction = none
  target : t.target = none
  threading : t.threadingDue.isSome ↔ t.state = .threading
  relaxDue : t.relaxDue = none
  strainDue : t.strainDue = none
  line : t.strainLine = false
  slipDue : t.slipDue = none
  watch : t.watch = .inactive
  integrator : t.integrator ≤ t.settings.top
  state : t.state.inPass = false

theorem Transport.AtRest.inv {t : Transport} (h : t.AtRest) : t.Inv := by
  obtain ⟨remembered, cause, pass, pendingEnd, direction, target, threading, relaxDue, strainDue, line, slipDue, watch,
    integrator, state⟩ := h
  have still : t.state ≠ .winding ∧ t.state ≠ .running ∧ t.state ≠ .limiting ∧ t.state ≠ .relaxing := by
    refine ⟨?_, ?_, ?_, ?_⟩ <;> rintro e <;> rw [e] at state <;> cases state
  simp [Transport.Inv, *]

theorem Transport.Inv.atRest {t : Transport} (h : t.Inv) (state : t.state.inPass = false) : t.AtRest := by
  obtain ⟨remembered, cause, pass, pendingEnd, direction, target, threading, relaxDue, strainDue, line, slipDue, watch,
    integrator⟩ := h
  have still : t.state ≠ .winding ∧ t.state ≠ .running ∧ t.state ≠ .limiting ∧ t.state ≠ .relaxing := by
    refine ⟨?_, ?_, ?_, ?_⟩ <;> rintro e <;> rw [e] at state <;> cases state
  constructor <;> simp_all

theorem Transport.Inv.withinTop {t : Transport} (h : t.Inv) : t.integrator ≤ t.settings.top := by
  obtain ⟨-, -, -, -, -, -, -, -, -, -, -, -, within⟩ := h
  exact within

/-- A pass is in progress exactly in the states of a pass. -/
theorem Transport.Inv.inPass {t : Transport} (h : t.Inv) : t.state.inPass = t.pass.isSome := by
  have pass : t.pass.isSome ↔ t.state.inPass = true := h.2.2.1
  cases e : t.state.inPass <;> simp_all

/-- In a pass there is no fault cause and no threading timer. -/
theorem Transport.Inv.moving {t : Transport} (h : t.Inv) (state : t.state.inPass = true) :
    t.faultCause = none ∧ t.threadingDue = none := by
  obtain ⟨-, cause, -, -, -, -, threading, -, -, -, -, -, -⟩ := h
  cases e : t.state <;> simp_all [TransportState.inPass]

/-! ### The end of a pass (R56, R57) -/

theorem Transport.passOver_atRest {t : Transport} (cause : t.faultCause = none) (threading : t.threadingDue = none)
    (within : t.integrator ≤ t.settings.top) : (t.passOver .stopped).AtRest := by
  constructor <;> simp [Transport.passOver, cause, threading, TransportState.inPass, within]

theorem Transport.Inv.passOver {t : Transport} (h : t.Inv) (pass : t.pass.isSome) : (t.passOver .stopped).AtRest :=
  have ⟨cause, threading⟩ := h.moving (h.inPass.trans pass)
  Transport.passOver_atRest cause threading h.withinTop

section
variable {d : Device}

theorem Device.endPass_inv (h : d.tc.Inv) (pass : d.tc.pass.isSome) (cause : PassEnd) :
    (d.endPass cause .stopped).tc.Inv :=
  (h.passOver pass).inv

theorem Device.endRelaxing_inv (h : d.tc.Inv) (pass : d.tc.pass.isSome) (cause : PendingEnd) :
    (d.endRelaxing cause).tc.Inv :=
  (h.passOver pass).inv

theorem Device.askEnd_inv (h : d.tc.Inv) (cause : PendingEnd) : (d.askEnd cause).tc.Inv := by
  obtain e | ⟨state, -, e⟩ | ⟨state, e⟩ := d.askEnd_cases cause <;> rw [e]
  · exact h
  · have inMotion : d.tc.state = .winding ∨ d.tc.state = .running ∨ d.tc.state = .limiting := by
      rwa [or_left_comm] at state
    obtain ⟨remembered, faultCause, pass, -, rest⟩ := h
    exact ⟨remembered, faultCause, pass, fun _ => inMotion, rest⟩
  · exact Device.endRelaxing_inv h (by rw [← h.inPass, state]; rfl) cause

/-! ### Entry to FAULT (R65) -/

/-- TC's part of an entry to FAULT before a pass in progress ends: outputs, deadlines and incident. -/
def Transport.alarmed (now : Incident) (t : Transport) : Transport :=
  { t with
    strainLine := false, threadingDue := none, relaxDue := none, strainDue := none, slipDue := none
    watch := .inactive, incident := some (t.incident.getD now), incidentCount := bump8 t.incidentCount }

/-- TC after an entry to FAULT. -/
def Transport.faulted (cause : FaultCause) (now : Incident) (t : Transport) : Transport :=
  { if t.pass.isSome then (t.alarmed now).passOver .fault else t.alarmed now with
    aligned := false, faultCause := some cause, state := .fault }

theorem Device.enterFault_tc (cause : FaultCause) (d : Device) :
    (d.enterFault cause).tc = d.tc.faulted cause (d.incidentNow cause) := by
  cases pass : d.tc.pass <;>
    simp [Device.enterFault, Device.endPass, Transport.faulted, Transport.alarmed, pass]

theorem Transport.Inv.faulted {t : Transport} (h : t.Inv) (cause : FaultCause) (now : Incident) :
    (t.faulted cause now).AtRest := by
  cases pass : t.pass with
  | some p => constructor <;> simp [Transport.faulted, Transport.alarmed, Transport.passOver, pass,
      TransportState.inPass, h.withinTop]
  | none =>
    have rest := h.atRest (by rw [h.inPass, pass]; rfl)
    constructor <;> simp [Transport.faulted, Transport.alarmed, pass, TransportState.inPass, rest.remembered,
      rest.pendingEnd, rest.direction, rest.target, h.withinTop]

theorem Device.enterFault_inv (h : d.tc.Inv) (cause : FaultCause) : (d.enterFault cause).tc.Inv := by
  rw [Device.enterFault_tc]
  exact (h.faulted _ _).inv

/-! ### Samples (R48, R58 to R63) -/

/-- The integrator moves within its top (R59). -/
theorem Transport.Inv.setLevel {t : Transport} (h : t.Inv) {n : Nat} (within : n ≤ t.settings.top) :
    ({ t with integrator := n } : Transport).Inv := by
  obtain ⟨remembered, cause, pass, pendingEnd, direction, target, threading, relax, strain, line, slip, watch, -⟩ := h
  exact ⟨remembered, cause, pass, pendingEnd, direction, target, threading, relax, strain, line, slip, watch, within⟩

theorem Device.enterLimiting_inv (h : d.tc.Inv) (state : d.tc.state = .running ∨ d.tc.state = .winding) :
    d.enterLimiting.tc.Inv := by
  simp only [Transport.Inv, Device.enterLimiting] at h ⊢
  obtain e | e := state <;> simp_all [TransportState.inPass, Remembered.ofState]

theorem Device.leaveLimiting_inv (h : d.tc.Inv) (state : d.tc.state = .limiting) : d.leaveLimiting.tc.Inv := by
  have remembered : d.tc.remembered.isSome := h.1.mpr (.inl state)
  obtain ⟨m, e⟩ := Option.isSome_iff_exists.mp remembered
  simp only [Transport.Inv, Device.leaveLimiting] at h ⊢
  cases m <;> simp_all [TransportState.inPass, Remembered.state]

theorem Device.sampleLimit_inv (h : d.tc.Inv) (f t : Nat) : (d.sampleLimit f t).tc.Inv := by
  simp only [Device.sampleLimit]
  repeat' split
  all_goals first | exact h | exact Device.enterLimiting_inv h (by simp [*]) | exact Device.leaveLimiting_inv h ‹_›

theorem Device.enterRelaxing_inv (h : d.tc.Inv) (state : d.tc.state = .limiting) : d.enterRelaxing.tc.Inv := by
  obtain ⟨cause, threading⟩ := h.moving (by rw [state]; rfl)
  rw [Device.enterRelaxing]
  split
  · exact (Transport.passOver_atRest (t := { d.tc with relaxExpired := false }) cause threading h.withinTop).inv
  · simp_all [Transport.Inv, TransportState.inPass]

/-- A trip counts a retry and relaxes, or faults (R60). -/
theorem Device.trip_inv (h : d.tc.Inv) (state : d.tc.state = .limiting) : d.trip.tc.Inv := by
  rw [Device.trip]
  split
  · exact Device.enterRelaxing_inv (d := { d with tc.retries := bump8 d.tc.retries }) h state
  · exact Device.enterFault_inv h _

theorem Device.sampleIntegrator_inv (h : d.tc.Inv) : d.sampleIntegrator.tc.Inv := by
  simp only [Device.sampleIntegrator]
  split
  · have raised : ({ d.tc with integrator := min d.tc.settings.top (d.tc.integrator + 30) } : Transport).Inv :=
      h.setLevel (Nat.min_le_left _ _)
    split
    · exact Device.trip_inv raised ‹_›
    · exact raised
  all_goals exact h.setLevel ((Nat.sub_le _ _).trans h.withinTop)

theorem Device.sampleResume_inv (h : d.tc.Inv) (f t : Nat) : (d.sampleResume f t).tc.Inv := by
  simp only [Device.sampleResume]
  split
  · rename_i state
    split
    · obtain ⟨m, e⟩ := Option.isSome_iff_exists.mp (h.1.mpr (.inr state))
      simp only [Transport.Inv] at h ⊢
      cases m <;> simp_all [TransportState.inPass, Remembered.state]
    · exact h
  all_goals exact h

theorem Device.sampleSlip_inv (h : d.tc.Inv) (f t : Nat) : (d.sampleSlip f t).tc.Inv := by
  simp only [Device.sampleSlip]
  repeat' split
  all_goals first | exact h | (simp only [Transport.Inv] at h ⊢; simp_all)

theorem Device.sample_inv (h : d.tc.Inv) (f t : Nat) : (d.sample f t).tc.Inv :=
  Device.sampleSlip_inv (Device.sampleResume_inv (Device.sampleIntegrator_inv (Device.sampleLimit_inv
    (d := { d with tc.feed := f, tc.takeUp := t }) h f t)) f t) f t

/-! ### The film-present line and the deadlines (R50 to R52, R61, R62, R64) -/

/-- Where no pass is in progress, TC may enter another such state; the cause and the threading timer follow it. -/
theorem Transport.AtRest.enter {t : Transport} (h : t.AtRest) {state : TransportState} {cause : Option FaultCause}
    {due : Option Nat} (rest : state.inPass = false) (fault : cause.isSome ↔ state = .fault)
    (threading : due.isSome ↔ state = .threading) (aligned film : Bool) :
    ({ t with
      state := state, faultCause := cause, threadingDue := due, aligned := aligned
      filmPresent := film } : Transport).AtRest where
  remembered := h.remembered
  cause := fault
  pass := h.pass
  pendingEnd := h.pendingEnd
  direction := h.direction
  target := h.target
  threading := threading
  relaxDue := h.relaxDue
  strainDue := h.strainDue
  line := h.line
  slipDue := h.slipDue
  watch := h.watch
  integrator := h.integrator
  state := rest

/-- The cause and the threading timer are absent where neither FAULT nor THREADING is. -/
theorem Transport.AtRest.noCause {t : Transport} (h : t.AtRest) (state : t.state ≠ .fault) : t.faultCause = none := by
  simpa [state] using h.cause

theorem Transport.AtRest.noTimer {t : Transport} (h : t.AtRest) (state : t.state ≠ .threading) :
    t.threadingDue = none := by
  simpa [state] using h.threading

theorem Device.startThreading_inv (h : d.tc.AtRest) (cause : d.tc.faultCause = none) : d.startThreading.tc.Inv := by
  have := h.enter (state := .threading) (cause := none) (due := some (d.now + 1000 * d.tc.settings.threadingTime)) rfl
    (by simp) (by simp) d.tc.aligned d.tc.filmPresent
  rw [← cause] at this
  exact this.inv

theorem Device.filmRises_inv (h : d.tc.Inv) : d.filmRises.tc.Inv := by
  simp only [Device.filmRises]
  split
  · exact h
  · split
    · rename_i empty
      have rest := h.atRest (by rw [empty]; rfl)
      split
      · exact Device.startThreading_inv (d := { d with tc.filmPresent := true })
          (rest.enter rest.state rest.cause rest.threading d.tc.aligned true) (rest.noCause (by simp [empty]))
      · exact h
    all_goals exact h

/-- A state without a pass from which TC goes to EMPTY or STOPPED, what it leaves being dropped. -/
theorem Transport.Inv.rest_of {t : Transport} (h : t.Inv) {state : TransportState} (e : t.state = state)
    (rest : state.inPass = false) :
    t.AtRest ∧ (state ≠ .fault → t.faultCause = none) ∧ (state ≠ .threading → t.threadingDue = none) := by
  subst e
  have here := h.atRest rest
  exact ⟨here, here.noCause, here.noTimer⟩

theorem Device.filmFalls_inv (h : d.tc.Inv) : d.filmFalls.tc.Inv := by
  simp only [Device.filmFalls]
  split
  · split
    · exact h
    · obtain ⟨rest, cause, -⟩ := h.rest_of ‹_› rfl
      exact (rest.enter (state := .empty) (due := none) rfl (by simp [cause]) (by simp) d.tc.aligned false).inv
    · obtain ⟨rest, cause, timer⟩ := h.rest_of ‹_› rfl
      exact (rest.enter (state := .empty) rfl (by simp [cause]) (by simp [timer]) d.tc.aligned false).inv
    · obtain ⟨rest, -, timer⟩ := h.rest_of ‹_› rfl
      exact (rest.enter (state := .empty) (cause := none) rfl (by simp) (by simp [timer]) d.tc.aligned false).inv
    all_goals exact Device.enterFault_inv (d := { d with tc.filmPresent := false }) h _
  · exact h

theorem Device.threadingExpires_inv (h : d.tc.Inv) : d.threadingExpires.tc.Inv := by
  rw [Device.threadingExpires]
  split
  · rename_i due
    split
    · obtain ⟨rest, cause, -⟩ := h.rest_of due.1 rfl
      exact (rest.enter (state := .stopped) (due := none) rfl (by simp [cause]) (by simp) true d.tc.filmPresent).inv
    · exact Device.enterFault_inv h _
  · exact h

theorem Device.relaxExpires_inv (h : d.tc.Inv) : d.relaxExpires.tc.Inv := by
  rw [Device.relaxExpires]
  split
  · simp only [Transport.Inv] at h ⊢
    simp_all
  · exact h

theorem Device.strainExpires_inv (h : d.tc.Inv) : d.strainExpires.tc.Inv := by
  rw [Device.strainExpires]
  split
  · simp only [Transport.Inv, Device.post_tc] at h ⊢
    simp_all
  · exact h

/-- The slip watch stands in TIMING only in motion, where its expiry leaves it SPENT or the part in FAULT (R64). -/
theorem Device.slipExpires_inv (h : d.tc.Inv) : d.slipExpires.tc.Inv := by
  simp only [Device.slipExpires]
  split
  · split
    · rw [Device.enterFault_tc, (Device.finding_frame _ _).2.2.2.1]
      exact (h.faulted _ _).inv
    · simp only [Transport.Inv, Device.post_tc, Device.finding_frame] at h ⊢
      simp_all
  · exact h

/-! ### Frame boundaries and the start of a pass (R53 to R56) -/

/-- A winding leg stands in WINDING, or at the crawl with WINDING remembered. -/
theorem Transport.isWinding_iff (t : Transport) :
    t.isWinding = true ↔ t.state = .winding ∨ t.state = .limiting ∧ t.remembered = some .winding := by
  cases e : t.state <;> simp [Transport.isWinding, e]

theorem Transport.startRunning_inv {t : Transport} (h : t.Inv) (winding : t.isWinding = true) : t.startRunning.Inv := by
  simp only [Transport.Inv] at h ⊢
  obtain e | ⟨e, m⟩ := t.isWinding_iff.mp winding <;> simp_all [Transport.startRunning, TransportState.inPass]

theorem Transport.legEnd_pass (t : Transport) (head : Nat) : (t.legEnd head).pass = t.pass := by
  simp only [Transport.legEnd, Transport.startRunning]
  repeat' split
  all_goals rfl

theorem Transport.legEnd_inv {t : Transport} (h : t.Inv) (head : Nat) : (t.legEnd head).Inv := by
  simp only [Transport.legEnd]
  split
  · rename_i reached
    split
    · have aligned : ({ t with aligned := true } : Transport).Inv := h
      split
      · exact Transport.startRunning_inv aligned reached.1
      · have pass : t.pass.isSome := by
          rw [← h.inPass]
          obtain e | ⟨e, -⟩ := t.isWinding_iff.mp reached.1 <;> rw [e] <;> rfl
        simp only [Transport.Inv] at h ⊢
        simp_all
    all_goals exact Transport.startRunning_inv h reached.1
  · exact h

theorem Device.boundary_inv (h : d.tc.Inv) (handed : Option Nat) : (d.boundary handed).tc.Inv := by
  have legEnded := Transport.legEnd_inv h d.head
  obtain e | ⟨cause, pass, e⟩ := d.boundary_cases handed <;> rw [e]
  · exact legEnded
  · refine Device.endPass_inv (d := { d with tc := d.tc.legEnd d.head }) legEnded ?_ cause
    exact (Transport.legEnd_pass _ _).symm ▸ pass

/-- TC at the start of a pass: RUNNING, or on a winding leg (R53, R54). -/
def Transport.started (p : PassRecord) (state : TransportState) (direction : Option Direction) (target : Option Nat)
    (t : Transport) : Transport :=
  { t with
    pass := some p, retries := 0, pendingEnd := none, watch := .armed
    state := state, direction := direction, target := target }

theorem Transport.AtRest.started {t : Transport} (h : t.AtRest) (stopped : t.state = .stopped) (p : PassRecord)
    {state : TransportState} {direction : Option Direction} {target : Option Nat}
    (moves : state = .running ∧ direction = none ∧ target = none
      ∨ state = .winding ∧ direction.isSome ∧ target.isSome) :
    (t.started p state direction target).Inv := by
  have cause := h.noCause (by simp [stopped])
  have timer := h.noTimer (by simp [stopped])
  obtain ⟨rfl, rfl, rfl⟩ | ⟨rfl, leg, aimed⟩ := moves <;>
    simp [Transport.Inv, Transport.started, TransportState.inPass, h.remembered, h.relaxDue, h.strainDue, h.line,
      h.slipDue, h.integrator, *]

theorem Device.startLeg_cases (first : Nat) (d : Device) :
    d.startLeg first = { d with tc.state := .running, tc.direction := none, tc.target := none }
    ∨ d.startLeg first = { d with tc.state := .winding, tc.direction := some .forward, tc.target := some first }
    ∨ ∃ target, d.startLeg first = d.startBackward target := by
  rw [Device.startLeg]
  repeat' split
  · exact .inl rfl
  · exact .inr (.inl rfl)
  · exact .inr (.inr ⟨_, rfl⟩)
  · exact .inr (.inr ⟨_, rfl⟩)

/-- An accepted RUN_PASS leaves TC started, on one of R54's three ways. -/
theorem Device.startPass_tc (r : Reel) (p : PassRecord) (d : Device) :
    ∃ state direction target, (d.startPass r p).tc = d.tc.started p state direction target
      ∧ (state = .running ∧ direction = none ∧ target = none
        ∨ state = .winding ∧ direction.isSome ∧ target.isSome) := by
  rw [Device.startPass]
  obtain e | e | ⟨target, e⟩ := Device.startLeg_cases p.first _ <;> rw [e]
  · exact ⟨_, _, _, rfl, .inl ⟨rfl, rfl, rfl⟩⟩
  · exact ⟨_, _, _, rfl, .inr ⟨rfl, rfl, rfl⟩⟩
  · exact ⟨_, _, _, rfl, .inr ⟨rfl, rfl, rfl⟩⟩

theorem Device.startPass_inv (h : d.tc.Inv) (state : d.tc.state = .stopped) (r : Reel) (p : PassRecord) :
    (d.startPass r p).tc.Inv := by
  obtain ⟨_, _, _, e, moves⟩ := d.startPass_tc r p
  rw [e]
  exact (h.atRest (by rw [state]; rfl)).started state p moves

/-! ### Requests (R49, R53, R56, R66, R68, R70) -/

theorem Device.escalate_inv (h : d.tc.Inv) (n : Nat) : (d.escalate n).tc.Inv := by
  simp only [Device.escalate]
  repeat' split
  · exact h
  · exact h
  · exact h
  · refine Device.askEnd_inv ?_ _
    exact h
  · exact h

theorem answerRelease_inv (h : d.tc.Inv) : (answerRelease d).1.tc.Inv := by
  simp only [answerRelease, refuse]
  split
  · obtain ⟨rest, -, timer⟩ := h.rest_of ‹_› rfl
    have left : ∀ state : TransportState, state ≠ .fault → state ≠ .threading → state.inPass = false →
        ({ d.tc with faultCause := none, state := state } : Transport).AtRest := by
      intro state fault threading still
      exact rest.enter (state := state) (cause := none) still (by simp [fault]) (by simp [timer, threading])
        d.tc.aligned d.tc.filmPresent
    repeat' split
    · exact (left .empty (by simp) (by simp) rfl).inv
    · exact h
    · exact (rest.enter (state := .threading) (cause := none)
        (due := some (d.now + 1000 * d.tc.settings.threadingTime)) rfl (by simp) (by simp) d.tc.aligned
        d.tc.filmPresent).inv
    · exact (left .stopped (by simp) (by simp) rfl).inv
  all_goals exact h

/-- The settings change, and the integrator stays within the new top (R49). -/
theorem Transport.Inv.setSettings {t : Transport} (h : t.Inv) {settings : TransportSettings} {n : Nat}
    (within : n ≤ settings.top) : ({ t with settings := settings, integrator := n } : Transport).Inv := by
  obtain ⟨remembered, cause, pass, pendingEnd, direction, target, threading, relax, strain, line, slip, watch, -⟩ := h
  exact ⟨remembered, cause, pass, pendingEnd, direction, target, threading, relax, strain, line, slip, watch, within⟩

theorem Transport.restarted_atRest (t : Transport) : t.restarted.AtRest := by
  constructor <;> simp [Transport.restarted, Transport.reset, TransportState.inPass]

theorem carryOut_transportInv (l : HostLink) (q : Request) (h : d.tc.Inv) : (carryOut l q d).1.tc.Inv := by
  cases q with
  | restartSuite => exact d.tc.restarted_atRest.inv
  | loadReel reelId head =>
    simp only [carryOut, answerLoadReel, withReel, refuse]
    repeat' split
    all_goals exact h
  | setTransport op =>
    simp only [carryOut, answerSetTransport, refuse]
    split
    · exact h.setSettings (Nat.min_le_right _ _)
    · exact h
  | runPass first last speed =>
    simp only [carryOut, answerRunPass, withFrame, refuse]
    split
    · exact h
    · repeat' split
      all_goals first | exact h | exact Device.startPass_inv h (by simp_all) _ _
  | stop =>
    simp only [carryOut, answerStop, refuse]
    split
    all_goals first | exact h | exact Device.askEnd_inv h _
  | release => exact answerRelease_inv h
  | clearIncident => exact h
  | setHead ref =>
    simp only [carryOut, answerSetHead, withFrame, refuse]
    repeat' split
    all_goals exact h
  | _ => simpa [carryOut] using h

end

/-! ### Every command -/

theorem transportSteady : Steady fun d => d.tc.Inv where
  post _ _ _ _ h := h
  count _ _ h := h
  finding _ _ h := by simpa using h
  latch _ _ h := h
  tracker _ _ h := h
  escalate _ _ h := Device.escalate_inv h _
  askEnd _ _ h := Device.askEnd_inv h _
  enterFault _ _ h := Device.enterFault_inv h _
  boundary _ _ h := Device.boundary_inv h _
  issue _ _ _ h := by simpa using h
  retire _ _ h := h
  gaps _ _ _ h := h
  resolveGaps _ _ h := h
  takeStatistics _ _ _ h := h
  clipped _ _ h := h

theorem transportKept : Kept fun d => d.tc.Inv where
  answer _ _ _ h := carryOut_transportInv _ _ h
  count _ _ h := h
  micro _ h := h
  sample _ _ _ h := Device.sample_inv h _ _
  filmRises _ h := Device.filmRises_inv h
  filmFalls _ h := Device.filmFalls_inv h
  edge _ _ h := transportSteady.edge _ h
  acclimatized _ _ h := by simpa using h
  reportExpires _ _ h := transportSteady.reportExpires _ h
  threadingExpires _ h := Device.threadingExpires_inv h
  relaxExpires _ h := Device.relaxExpires_inv h
  strainExpires _ h := Device.strainExpires_inv h
  slipExpires _ h := Device.slipExpires_inv h
  orderSent _ h := h
  report _ _ h := transportSteady.report _ h
  port _ _ _ h := h

theorem Transport.reset_inv (film : Bool) : ({ Transport.reset with filmPresent := film } : Transport).Inv := by
  have rest : Transport.reset.AtRest := by
    constructor <;> simp [Transport.reset, TransportState.inPass]
  exact (rest.enter rest.state rest.cause rest.threading false film).inv

theorem exec_transportInv {c : Instr} {s t : State} (he : exec c s = .next t) (h : s.dev.tc.Inv) : t.dev.tc.Inv := by
  refine transportKept.exec c s t ?_ ?_ he h
  · intro _ d h
    rw [Device.milli]
    split <;> exact h
  · intro _ _ _ film _ _
    exact Transport.reset_inv film

/-- Settles O60. -/
theorem transportInvariantIsKept : Obligations.TransportInvariantIsKept :=
  fun _ _ _ h he => exec_transportInv he h

end Sys2Proof.Machine
end

section
/-! The catalogue and the vault: one reel's record replaced by another, or by none, with its slot and its place in the
hold queue; every change of the catalogue is such a replacement (R1, R11, R17, R22, R31). -/

namespace Sys2Proof.Machine

/-! ### Reels by id (R1, R11) -/

/-- With distinct ids, at most one reel passes a test exactly when any two that pass it are the same. -/
theorem countP_le_one_iff {l : List Reel} (ids : (l.map (·.id)).Nodup) (p : Reel → Bool) :
    l.countP p ≤ 1 ↔ ∀ x ∈ l, ∀ y ∈ l, p x = true → p y = true → x = y := by
  have once : (l.filter p).Nodup := (ids.of_map _).filter _
  rw [List.countP_eq_length_filter, ← List.toFinset_card_of_nodup once, Finset.card_le_one]
  simp only [List.mem_toFinset, List.mem_filter]
  exact ⟨fun h x hx y hy px py => h x ⟨hx, px⟩ y ⟨hy, py⟩, fun h x hx y hy => h x hx.1 y hy.1 hx.2 hy.2⟩

section
variable {d e : Device} {r : Reel} {id : Nat}

theorem Device.CatalogueInv.unique (h : d.CatalogueInv) {x y : Reel} (hx : x ∈ d.reels) (hy : y ∈ d.reels)
    (he : x.id = y.id) : x = y :=
  List.inj_on_of_nodup_map h.1 hx hy he

theorem Device.CatalogueInv.hold_nodup (h : d.CatalogueInv) : d.vault.hold.Nodup := by
  obtain ⟨-, -, -, once, -⟩ := h
  exact once

theorem Device.CatalogueInv.find (h : d.CatalogueInv) (hr : r ∈ d.reels) : d.findReel r.id = some r := by
  cases hf : d.findReel r.id with
  | none => exact absurd (List.find?_eq_none.mp hf r hr) (by simp)
  | some y => rw [h.unique (Device.findReel_mem hf) hr (Device.findReel_id hf)]

/-- Any two LOADED reels are the same (R11). -/
theorem Device.CatalogueInv.loaded_unique (h : d.CatalogueInv) {x y : Reel} (hx : x ∈ d.reels) (hy : y ∈ d.reels)
    (lx : x.state = .loaded) (ly : y.state = .loaded) : x = y := by
  obtain ⟨ids, -, loaded, -⟩ := h
  exact (countP_le_one_iff ids _).mp loaded x hx y hy (by simpa using lx) (by simpa using ly)

theorem Device.loadedReel_eq_none_iff (d : Device) : d.loadedReel = none ↔ ∀ x ∈ d.reels, x.state ≠ .loaded := by
  simp [Device.loadedReel]

theorem Device.CatalogueInv.held_iff (h : d.CatalogueInv) (hr : r ∈ d.reels) :
    r.id ∈ d.vault.hold ↔ r.state = .hold := by
  obtain ⟨-, -, -, -, held⟩ := id h
  rw [held]
  exact ⟨fun ⟨x, hx, he, hs⟩ => h.unique hx hr he ▸ hs, fun hs => ⟨r, hr, rfl, hs⟩⟩

/-- The invariants read reels, slots and hold queue alone. -/
theorem Device.CatalogueInv.congr (h : d.CatalogueInv) (reels : e.reels = d.reels)
    (hold : e.vault.hold = d.vault.hold) : e.CatalogueInv := by
  rwa [Device.CatalogueInv, reels, hold]

theorem Device.SlotInv.congr (h : d.SlotInv) (reels : e.reels = d.reels) (slots : e.vault.slots = d.vault.slots) :
    e.SlotInv := by
  rwa [Device.SlotInv, reels, show e.slot = d.slot from funext fun n => by rw [Device.slot, slots, Device.slot]]

/-! ### One record replaced (R1, R22, R31) -/

/-- No reel but the one given says that it holds the slot. -/
def Device.Unclaimed (d : Device) (old : Option Reel) (n : Nat) : Prop :=
  ∀ x ∈ d.reels, ∀ v, x.slotState = some (n, v) → old = some x

/-- The slots follow a replacement: the new record's slot is as it says; any other stays as it is, unless it was the
old record's, or was no reel's and is no reel's. -/
structure Device.SlotsFollow (d e : Device) (old new : Option Reel) : Prop where
  claimed : ∀ x, new = some x → ∀ n v, x.slotState = some (n, v) → n < 256 ∧ e.slot n = v
  others : ∀ n < 256, (e.slot n = d.slot n ∧ ∀ r, old = some r → ∀ v, r.slotState ≠ some (n, v))
    ∨ (d.Unclaimed old n ∧ ((e.slot n).owner? = none ∨ ∃ x, new = some x ∧ x.slotState = some (n, e.slot n)
      ∧ (e.slot n).owner? = some x.id))

/-- A catalogue in which one record, or none, is replaced by one, or none; the hold queue follows, and the slots do
where they are asked for. -/
structure Device.Replaced (S : Prop) (d e : Device) (old new : Option Reel) : Prop where
  was : ∀ r, old = some r → r ∈ d.reels
  mem : ∀ x, x ∈ e.reels ↔ (x ∈ d.reels ∧ old ≠ some x) ∨ new = some x
  ids : (e.reels.map (·.id)).Nodup
  length : e.reels.length ≤ 256
  holdOnce : e.vault.hold.Nodup
  held : ∀ id, id ∈ e.vault.hold ↔ (id ∈ d.vault.hold ∧ ∀ r, old = some r → r.id ≠ id)
    ∨ ∃ x, new = some x ∧ x.id = id ∧ x.state = .hold
  slots : S → d.SlotsFollow e old new

/-- The record is that of the LOADED reel. -/
def IsLoaded (r : Option Reel) : Prop := ∃ x, r = some x ∧ x.state = .loaded

variable {S : Prop} {old new : Option Reel}

theorem Device.CatalogueInv.replace (h : d.CatalogueInv) (k : d.Replaced S e old new)
    (loaded : IsLoaded new → IsLoaded old ∨ d.loadedReel = none) : e.CatalogueInv := by
  have ⟨_, _, _, _, held⟩ := h
  refine ⟨k.ids, k.length, ?_, k.holdOnce, fun id => ?_⟩
  · have before : ∀ x, x ∈ d.reels → old ≠ some x → x.state = .loaded → ¬ IsLoaded new := by
      intro x hx hne lx ln
      obtain ⟨r, hr, lr⟩ | none := loaded ln
      · exact hne (hr.trans (congrArg _ (h.loaded_unique (k.was r hr) hx lr lx)))
      · exact (d.loadedReel_eq_none_iff.mp none) x hx lx
    rw [countP_le_one_iff k.ids]
    intro x hx y hy lx ly
    simp only [decide_eq_true_eq] at lx ly
    obtain ⟨hx, hnx⟩ | hx := (k.mem x).mp hx <;> obtain ⟨hy, hny⟩ | hy := (k.mem y).mp hy
    · exact h.loaded_unique hx hy lx ly
    · exact absurd ⟨y, hy, ly⟩ (before x hx hnx lx)
    · exact absurd ⟨x, hx, lx⟩ (before y hy hny ly)
    · exact Option.some.inj (hx.symm.trans hy)
  · rw [k.held, held]
    constructor
    · rintro (⟨⟨x, hx, hid, hs⟩, hne⟩ | ⟨x, hx, hid, hs⟩)
      · exact ⟨x, (k.mem x).mpr (.inl ⟨hx, fun hold => hne x hold hid⟩), hid, hs⟩
      · exact ⟨x, (k.mem x).mpr (.inr hx), hid, hs⟩
    · rintro ⟨x, hx, hid, hs⟩
      obtain ⟨hx, hne⟩ | hx := (k.mem x).mp hx
      · exact .inl ⟨⟨x, hx, hid, hs⟩, fun r hr he =>
          hne (hr.trans (congrArg _ (h.unique (k.was r hr) hx (he.trans hid.symm))))⟩
      · exact .inr ⟨x, hx, hid, hs⟩

theorem Device.SlotInv.replace (h : d.SlotInv) (k : d.Replaced S e old new) (s : S) : e.SlotInv := by
  obtain ⟨claimed, others⟩ := k.slots s
  constructor
  · intro x hx n v hv
    obtain ⟨hx, hne⟩ | hx := (k.mem x).mp hx
    · obtain ⟨hn, hs⟩ := h.1 x hx n v hv
      obtain ⟨same, -⟩ | ⟨free, -⟩ := others n hn
      · exact ⟨hn, same.trans hs⟩
      · exact absurd (free x hx v hv) hne
    · exact claimed x hx n v hv
  · intro n hn id owner
    obtain ⟨same, left⟩ | ⟨-, free | ⟨x, hx, hv, named⟩⟩ := others n hn
    · rw [same] at owner ⊢
      obtain ⟨x, hx, hid, hv⟩ := h.2 n hn id owner
      exact ⟨x, (k.mem x).mpr (.inl ⟨hx, fun hold => left x hold _ hv⟩), hid, hv⟩
    · rw [free] at owner
      cases owner
    · exact ⟨x, (k.mem x).mpr (.inr hx), Option.some.inj (named.symm.trans owner), hv⟩

/-- Whether a reel is LOADED does not change when the replaced record and the new one agree on it. -/
theorem Device.Replaced.loadedReel (k : d.Replaced S e old new) (loaded : IsLoaded old ↔ IsLoaded new) :
    e.loadedReel = none ↔ d.loadedReel = none := by
  simp only [Device.loadedReel_eq_none_iff]
  constructor
  · intro none x hx lx
    by_cases hold : old = some x
    · obtain ⟨y, hy, ly⟩ := loaded.mp ⟨x, hold, lx⟩
      exact none y ((k.mem y).mpr (.inr hy)) ly
    · exact none x ((k.mem x).mpr (.inl ⟨hx, hold⟩)) lx
  · intro none x hx lx
    obtain ⟨hx, -⟩ | hx := (k.mem x).mp hx
    · exact none x hx lx
    · obtain ⟨y, hy, ly⟩ := loaded.mpr ⟨x, hx, lx⟩
      exact none y (k.was y hy) ly

/-! ### The slots of a replacement (R22, R23) -/

theorem Device.SlotInv.unclaimed (h : d.SlotInv) {n : Nat} (free : (d.slot n).owner? = none) (old : Option Reel) :
    d.Unclaimed old n := by
  intro x hx v hv
  obtain ⟨-, hs⟩ := h.1 x hx n v hv
  rw [hs] at free
  cases hx : x.state <;> simp only [Reel.slotState, hx] at hv <;> cases hv <;> cases free

/-- The owner a slot names by a reel's record is that reel. -/
theorem Reel.slotState_owner {n : Nat} {v : SlotState} (h : r.slotState = some (n, v)) : v.owner? = some r.id := by
  cases hx : r.state <;> simp only [Reel.slotState, hx] at h <;> cases h <;> rfl

theorem Device.SlotInv.unclaimed_own (h : d.SlotInv) (c : d.CatalogueInv) (hr : r ∈ d.reels) {n : Nat}
    {v : SlotState} (hv : r.slotState = some (n, v)) : d.Unclaimed (some r) n := by
  intro x hx w hw
  have same : w = v := (h.1 x hx n w hw).2.symm.trans (h.1 r hr n v hv).2
  have owner := Reel.slotState_owner (same ▸ hw)
  rw [Reel.slotState_owner hv] at owner
  exact congrArg some (c.unique hr hx (Option.some.inj owner))

/-- The slots do not change, and the two records hold the same slot or none. -/
theorem Device.SlotInv.follow_same (h : d.SlotInv) (c : d.CatalogueInv) (hr : r ∈ d.reels) {x : Reel}
    (same : x.slotState = r.slotState) (hid : x.id = r.id) (slots : e.vault.slots = d.vault.slots) :
    d.SlotsFollow e (some r) (some x) := by
  have slot : ∀ n, e.slot n = d.slot n := fun n => by rw [Device.slot, slots, Device.slot]
  refine ⟨fun y hy n v hv => ?_, fun n hn => ?_⟩
  · cases hy
    rw [slot]
    exact h.1 r hr n v (same ▸ hv)
  · by_cases claimed : ∃ v, r.slotState = some (n, v)
    · obtain ⟨v, hv⟩ := claimed
      refine .inr ⟨h.unclaimed_own c hr hv, .inr ⟨x, rfl, ?_, ?_⟩⟩
      · rw [slot, (h.1 r hr n v hv).2, same, hv]
      · rw [slot, (h.1 r hr n v hv).2, hid, Reel.slotState_owner hv]
    · refine .inl ⟨slot n, fun y hy v hv => claimed ⟨v, ?_⟩⟩
      cases hy
      exact hv

/-- One slot is set; the old record may have held it, or no reel did; the new record holds it, or no reel does. -/
theorem Device.SlotsFollow.set {n : Nat} {v : SlotState} (hn : n < 256) (free : d.Unclaimed old n)
    (left : ∀ r, old = some r → ∀ m w, r.slotState = some (m, w) → m = n)
    (slots : e.vault.slots = d.vault.slots.setIfInBounds n v)
    (new_ : (v.owner? = none ∧ ∀ x, new = some x → x.slotState = none)
      ∨ ∃ x, new = some x ∧ x.slotState = some (n, v)) : d.SlotsFollow e old new := by
  have here : e.slot n = v := by rw [Device.slot, slots]; simp [hn]
  have other : ∀ m, m ≠ n → e.slot m = d.slot m := fun m hm => by
    rw [Device.slot, slots, Device.slot]; simp [hm.symm]
  refine ⟨fun y hy m w hw => ?_, fun m hm => ?_⟩
  · obtain ⟨-, none⟩ | ⟨x, hx, hv⟩ := new_
    · rw [none y hy] at hw
      cases hw
    · cases hx.symm.trans hy
      cases hv.symm.trans hw
      exact ⟨hn, here⟩
  · by_cases e' : m = n
    · subst e'
      refine .inr ⟨free, ?_⟩
      rw [here]
      exact new_.imp And.left fun ⟨x, hx, hv⟩ => ⟨x, hx, hv, Reel.slotState_owner hv⟩
    · exact .inl ⟨other m e', fun r hr w hw => e' (left r hr m w hw)⟩

/-! ### The forms of a replacement -/

/-- A record changes where it stands. -/
theorem Device.CatalogueInv.replaced_setReel (c : d.CatalogueInv) {f : Reel → Reel} (hr : d.findReel id = some r)
    (hf : ∀ x, (f x).id = x.id) (reels : e.reels = (d.setReel id f).reels) (holdOnce : e.vault.hold.Nodup)
    (held : ∀ k, k ∈ e.vault.hold ↔ (k ∈ d.vault.hold ∧ k ≠ r.id) ∨ (k = r.id ∧ (f r).state = .hold))
    (slots : S → d.SlotsFollow e (some r) (some (f r))) : d.Replaced S e (some r) (some (f r)) where
  was x hx := by cases hx; exact Device.findReel_mem hr
  mem x := by
    have hid := Device.findReel_id hr
    rw [reels]
    simp only [Device.setReel_reels, List.mem_map, ne_eq, Option.some.injEq]
    constructor
    · rintro ⟨y, hy, rfl⟩
      by_cases h : y.id = id
      · rw [if_pos h, c.unique hy (Device.findReel_mem hr) (h.trans hid.symm)]
        exact .inr rfl
      · rw [if_neg h]
        exact .inl ⟨hy, by rintro rfl; exact h hid⟩
    · rintro (⟨hx, hne⟩ | rfl)
      · exact ⟨x, hx, if_neg fun h => hne (c.unique (Device.findReel_mem hr) hx (hid.trans h.symm))⟩
      · exact ⟨r, Device.findReel_mem hr, if_pos hid⟩
  ids := by
    rw [reels, Device.setReel_ids d id f hf]
    exact c.1
  length := by
    rw [reels]
    simpa using c.2.1
  holdOnce := holdOnce
  held k := by
    rw [held]
    simp only [Option.some.injEq, forall_eq', hf, exists_eq_left', eq_comm (a := k), ne_eq]
  slots := slots

/-- A record leaves the catalogue. -/
theorem Device.CatalogueInv.replaced_delete (c : d.CatalogueInv) (hr : d.findReel id = some r)
    (reels : e.reels = (d.deleteReel id).reels) (holdOnce : e.vault.hold.Nodup)
    (held : ∀ k, k ∈ e.vault.hold ↔ k ∈ d.vault.hold ∧ k ≠ r.id)
    (slots : S → d.SlotsFollow e (some r) none) : d.Replaced S e (some r) none where
  was x hx := by cases hx; exact Device.findReel_mem hr
  mem x := by
    have hid := Device.findReel_id hr
    rw [reels]
    simp only [Device.deleteReel_reels, List.mem_filter, decide_eq_true_eq, ne_eq, Option.some.injEq, reduceCtorEq,
      or_false, and_congr_right_iff]
    exact fun hx => not_congr ⟨fun h => c.unique (Device.findReel_mem hr) hx (hid.trans h.symm), fun h => h ▸ hid⟩
  ids := by
    rw [reels]
    exact c.1.sublist (List.filter_sublist.map _)
  length := by
    rw [reels]
    exact (List.length_filter_le _ _).trans c.2.1
  holdOnce := holdOnce
  held k := by
    rw [held]
    simp [eq_comm (a := k)]
  slots := slots

/-- A record joins the catalogue. -/
theorem Device.CatalogueInv.replaced_append (c : d.CatalogueInv) (hr : d.findReel r.id = none)
    (few : d.reels.length < 256) (reels : e.reels = d.reels ++ [r]) (hold : e.vault.hold = d.vault.hold)
    (state : r.state ≠ .hold) (slots : S → d.SlotsFollow e none (some r)) : d.Replaced S e none (some r) where
  was x hx := by cases hx
  mem x := by
    rw [reels]
    simp [eq_comm (a := x)]
  ids := by
    have fresh : ∀ x ∈ d.reels, x.id ≠ r.id := by simpa [Device.findReel] using hr
    rw [reels, List.map_append, List.nodup_append]
    refine ⟨c.1, by simp, ?_⟩
    rintro _ h _ hb rfl
    obtain ⟨x, hx, he⟩ := List.mem_map.mp h
    exact fresh x hx (he.trans (by simpa using hb))
  length := by
    rw [reels, List.length_append]
    simp only [List.length_cons, List.length_nil]
    omega
  holdOnce := hold ▸ c.2.2.2.1
  held k := by
    rw [hold]
    simp [state]
  slots := slots

/-- A slot changes that no reel holds. -/
theorem Device.CatalogueInv.replaced_slot (c : d.CatalogueInv) {n : Nat} {v : SlotState} (free : v.owner? = none)
    (slots : S → n < 256 ∧ d.Unclaimed none n) : d.Replaced S (d.setSlot n v) none none where
  was x hx := by cases hx
  mem x := by simp
  ids := c.1
  length := c.2.1
  holdOnce := c.2.2.2.1
  held k := by simp
  slots s := .set (slots s).1 (slots s).2 (fun r hr => nomatch hr) rfl (.inl ⟨free, fun x hx => nomatch hx⟩)

end

/-! ### A property that every change of the catalogue keeps, but a load, an unload and a restart -/

/-- A property of catalogue and vault that a replacement of a record keeps, the slots being watched where S says so. -/
structure ShelfLaw (S : Prop) (P : Device → Prop) : Prop where
  catalogue : ∀ {d}, P d → d.CatalogueInv
  slots : ∀ {d}, S → P d → d.SlotInv
  same : ∀ {d e : Device}, P d → e.reels = d.reels → e.vault.slots = d.vault.slots → e.vault.hold = d.vault.hold → P e
  replace : ∀ {d e old new}, P d → d.Replaced S e old new → (IsLoaded old ↔ IsLoaded new) → P e

theorem isLoaded_some {r : Reel} : IsLoaded (some r) ↔ r.state = .loaded := by simp [IsLoaded]

theorem not_isLoaded_none : ¬ IsLoaded none := by simp [IsLoaded]

section
variable {d e : Device} {r : Reel} {id n : Nat}

theorem Device.CatalogueInv.held_other (h : d.CatalogueInv) (hr : d.findReel id = some r) (state : r.state ≠ .hold)
    (k : Nat) : k ∈ d.vault.hold ↔ k ∈ d.vault.hold ∧ k ≠ r.id := by
  refine ⟨fun hk => ⟨hk, ?_⟩, And.left⟩
  rintro rfl
  exact state ((h.held_iff (Device.findReel_mem hr)).mp hk)

theorem Device.CatalogueInv.held_erase (h : d.CatalogueInv) (k : Nat) :
    k ∈ d.vault.hold.erase id ↔ k ∈ d.vault.hold ∧ k ≠ id := by
  rw [h.2.2.2.1.mem_erase_iff, and_comm]

theorem Device.CatalogueInv.held_append (h : d.CatalogueInv) (hr : d.findReel id = some r) (state : r.state ≠ .hold)
    (k : Nat) : k ∈ d.vault.hold ++ [r.id] ↔ (k ∈ d.vault.hold ∧ k ≠ r.id) ∨ k = r.id := by
  rw [List.mem_append, List.mem_singleton, ← h.held_other hr state]

theorem Reel.slotState_none {r : Reel} (h : r.state.slot? = none) : r.slotState = none := by
  cases hs : r.state <;> simp only [hs, ReelState.slot?, reduceCtorEq, Reel.slotState] at h ⊢

namespace ShelfLaw
variable {S : Prop} {P : Device → Prop}

/-- A record changes, and neither its slot nor its place in the hold queue does. -/
theorem amend (k : ShelfLaw S P) (h : P d) (hr : d.findReel id = some r) {f : Reel → Reel} (hf : ∀ x, (f x).id = x.id)
    (slot : (f r).slotState = r.slotState) (hold : (f r).state = .hold ↔ r.state = .hold)
    (loaded : (f r).state = .loaded ↔ r.state = .loaded) : P (d.setReel id f) := by
  have c := k.catalogue h
  refine k.replace h (c.replaced_setReel hr hf rfl c.2.2.2.1 (fun j => ?_) fun s =>
    (k.slots s h).follow_same c (Device.findReel_mem hr) slot (hf r) rfl) (by rw [isLoaded_some, isLoaded_some, loaded])
  rw [hold]
  by_cases hj : j = r.id
  · subst hj
    simpa using c.held_iff (Device.findReel_mem hr)
  · simp [hj]

theorem giveSlot (k : ShelfLaw S P) (h : P d) (hr : d.findReel id = some r) (held : id ∈ d.vault.hold)
    (free : S → n < 256 ∧ d.slot n = .free) : P (d.giveSlot id n) := by
  have c := k.catalogue h
  have hid := Device.findReel_id hr
  have state : r.state = .hold := (c.held_iff (Device.findReel_mem hr)).mp (hid ▸ held)
  refine k.replace h (c.replaced_setReel (f := fun r => { r with state := .returning n }) hr (fun _ => rfl) rfl
    (c.2.2.2.1.erase _) (fun j => ?_) fun s => ?_) ?_
  · show j ∈ d.vault.hold.erase id ↔ _
    rw [c.held_erase, hid]
    simp
  · refine .set (v := .reserved id) (free s).1 ((k.slots s h).unclaimed (by rw [(free s).2]; rfl) _) ?_ rfl
      (.inr ⟨_, rfl, ?_⟩)
    · rintro x hx m w hw
      cases hx
      simp [Reel.slotState, state] at hw
    · simp [Reel.slotState, hid]
  · rw [isLoaded_some, isLoaded_some, state]
    simp

/-- An offer of a FREE slot (R32). -/
theorem offer (k : ShelfLaw S P) (h : P d) (free : S → n < 256 ∧ d.slot n = .free) : P (d.offer n) := by
  obtain e | ⟨id, r, held, hr, -, e⟩ := d.offer_cases n <;> rw [e]
  · exact h
  · exact k.giveSlot h hr held free

/-- A reel leaves its slot, which becomes FREE, and takes a state without one (R6, R13). -/
theorem leaveSlot (k : ShelfLaw S P) (h : P d) (hr : d.findReel id = some r) {v : SlotState}
    (slot : r.slotState = some (n, v)) {state : ReelState} (none : state.slot? = none) (hold : state ≠ .hold)
    (loaded : state ≠ .loaded) : P ((d.freeSlot n).setReel id fun r => { r with state := state }) := by
  have c := k.catalogue h
  have notHold : r.state ≠ .hold := by intro e; simp [Reel.slotState, e] at slot
  have notLoaded : r.state ≠ .loaded := by intro e; simp [Reel.slotState, e] at slot
  refine k.replace h (c.replaced_setReel (f := fun r => { r with state := state }) hr (fun _ => rfl) rfl c.2.2.2.1
    (fun j => ?_) fun s => ?_) ?_
  · simpa [hold] using c.held_other hr notHold j
  · refine .set (n := n) (v := .free) ((k.slots s h).1 r (Device.findReel_mem hr) n v slot).1
      ((k.slots s h).unclaimed_own c (Device.findReel_mem hr) slot) ?_ rfl (.inl ⟨rfl, ?_⟩)
    · rintro x hx m w hw
      cases hx
      cases hw.symm.trans slot
      rfl
    · rintro x hx
      cases hx
      exact Reel.slotState_none none
  · rw [isLoaded_some, isLoaded_some]
    simp [notLoaded, loaded]

/-- A reel leaves the catalogue and its slot (R4). -/
theorem deleteShelved (k : ShelfLaw S P) (h : P d) (hr : d.findReel id = some r) (state : r.state = .shelved n) :
    P ((d.deleteReel id).freeSlot n) := by
  have c := k.catalogue h
  have slot : r.slotState = some (n, .occupied r.id) := by simp [Reel.slotState, state]
  refine k.replace h (c.replaced_delete hr rfl c.2.2.2.1 (c.held_other hr (by simp [state])) fun s => ?_) ?_
  · refine .set (n := n) (v := .free) ((k.slots s h).1 r (Device.findReel_mem hr) n _ slot).1
      ((k.slots s h).unclaimed_own c (Device.findReel_mem hr) slot) ?_ rfl (.inl ⟨rfl, fun x hx => nomatch hx⟩)
    rintro x hx m w hw
    cases hx
    cases hw.symm.trans slot
    rfl
  · rw [isLoaded_some]
    simp [state, not_isLoaded_none]

/-- A reel without a slot leaves the catalogue, and the hold queue where it stands in it (R4). -/
theorem deleteUnshelved (k : ShelfLaw S P) (h : P d) (hr : d.findReel id = some r) (slot : r.state.slot? = none)
    (loaded : r.state ≠ .loaded) (reels : e.reels = (d.deleteReel id).reels)
    (slots : e.vault.slots = d.vault.slots) (holdOnce : e.vault.hold.Nodup)
    (held : ∀ j, j ∈ e.vault.hold ↔ j ∈ d.vault.hold ∧ j ≠ r.id) : P e := by
  have c := k.catalogue h
  refine k.replace h (c.replaced_delete hr reels holdOnce held fun s => ?_) ?_
  · refine ⟨(fun x hx => nomatch hx), fun m _ => .inl ⟨by rw [Device.slot, slots, Device.slot], ?_⟩⟩
    rintro x hx v hv
    cases hx
    rw [Reel.slotState_none slot] at hv
    cases hv
  · rw [isLoaded_some]
    simp [loaded, not_isLoaded_none]

/-- The record of an enrolled reel joins the catalogue, in a FREE slot (R2, R3). -/
theorem enrolShelved (k : ShelfLaw S P) (h : P d) (hr : d.findReel r.id = none) (few : d.reels.length < 256)
    (state : r.state = .shelved n) (free : d.slot n = .free) (hn : n < 256) :
    P (({ d with reels := d.reels ++ [r] } : Device).setSlot n (.occupied r.id)) := by
  have c := k.catalogue h
  refine k.replace h (c.replaced_append hr few rfl rfl (by simp [state]) fun s => ?_) ?_
  · exact .set (n := n) (v := .occupied r.id) hn ((k.slots s h).unclaimed (by rw [free]; rfl) _)
      (fun x hx => nomatch hx) rfl (.inr ⟨_, rfl, by simp [Reel.slotState, state]⟩)
  · rw [isLoaded_some]
    simp [state, not_isLoaded_none]

/-- The record of an enrolled reel joins the catalogue in the suite (R2, R3). -/
theorem enrolSuite (k : ShelfLaw S P) (h : P d) (hr : d.findReel r.id = none) (few : d.reels.length < 256)
    (slot : r.state.slot? = none) (hold : r.state ≠ .hold) (loaded : r.state ≠ .loaded) :
    P { d with reels := d.reels ++ [r] } := by
  have c := k.catalogue h
  refine k.replace h (c.replaced_append hr few rfl rfl hold fun s => ?_) ?_
  · refine ⟨fun x hx m v hv => ?_, fun m _ => .inl ⟨rfl, fun x hx => nomatch hx⟩⟩
    cases hx
    rw [Reel.slotState_none slot] at hv
    cases hv
  · rw [isLoaded_some]
    simp [loaded, not_isLoaded_none]

/-- A held reel is recalled (R13). -/
theorem recallHeld (k : ShelfLaw S P) (h : P d) (hr : d.findReel id = some r) (state : r.state = .hold) :
    P (({ d with vault.hold := d.vault.hold.erase id } : Device).setReel id fun r => { r with state := .ready }) := by
  have c := k.catalogue h
  refine k.replace h (c.replaced_setReel (f := fun r => { r with state := .ready }) hr (fun _ => rfl) rfl
    (c.2.2.2.1.erase _) (fun j => ?_) fun s => (k.slots s h).follow_same c (Device.findReel_mem hr) ?_ rfl rfl) ?_
  · show j ∈ d.vault.hold.erase id ↔ _
    rw [c.held_erase, Device.findReel_id hr]
    simp
  · simp [Reel.slotState, state]
  · rw [isLoaded_some, isLoaded_some]
    simp [state]

/-- A returning reel is shelved in its own slot (R12). -/
theorem shelveOwn (k : ShelfLaw S P) (h : P d) (hr : d.findReel id = some r) (state : r.state = .returning n) :
    P (d.shelveReel id n) := by
  have c := k.catalogue h
  have slot : r.slotState = some (n, .reserved r.id) := by simp [Reel.slotState, state]
  refine k.replace h (c.replaced_setReel (f := fun r => { r with state := .shelved n }) hr (fun _ => rfl) rfl c.2.2.2.1
    (fun j => ?_) fun s => ?_) ?_
  · show j ∈ d.vault.hold ↔ _
    simpa using c.held_other hr (by simp [state]) j
  · refine .set (n := n) (v := .occupied id) ((k.slots s h).1 r (Device.findReel_mem hr) n _ slot).1
      ((k.slots s h).unclaimed_own c (Device.findReel_mem hr) slot) ?_ rfl
      (.inr ⟨_, rfl, by simp [Reel.slotState, Device.findReel_id hr]⟩)
    rintro x hx m w hw
    cases hx
    cases hw.symm.trans slot
    rfl
  · rw [isLoaded_some, isLoaded_some]
    simp [state]

/-- A returning reel is shelved in another slot, and the one reserved for it becomes FREE (R12). -/
theorem shelveOther (k : ShelfLaw S P) (h : P d) (hr : d.findReel id = some r) {old : Nat}
    (state : r.state = .returning old) (hn : n < 256) (free : d.slot n = .free) :
    P ((d.shelveReel id n).freeSlot old) := by
  have c := k.catalogue h
  have hid := Device.findReel_id hr
  have slot : r.slotState = some (old, .reserved r.id) := by simp [Reel.slotState, state]
  refine k.replace h (c.replaced_setReel (f := fun r => { r with state := .shelved n }) hr (fun _ => rfl) rfl c.2.2.2.1
    (fun j => ?_) fun s => ?_) ?_
  · show j ∈ d.vault.hold ↔ _
    simpa using c.held_other hr (by simp [state]) j
  · obtain ⟨ho, was⟩ := (k.slots s h).1 r (Device.findReel_mem hr) old _ slot
    have apart : n ≠ old := by
      rintro rfl
      cases free.symm.trans was
    have freed : ((d.shelveReel id n).freeSlot old).slot old = .free := Device.slot_setSlot_same _ _ ho
    have taken : ((d.shelveReel id n).freeSlot old).slot n = .occupied id :=
      (Device.slot_setSlot_other _ _ apart).trans (d.slot_setSlot_same _ hn)
    refine ⟨fun x hx m w hw => ?_, fun m hm => ?_⟩
    · cases hx
      cases hw
      exact ⟨hn, by rw [taken, hid]⟩
    · by_cases ho' : m = old
      · subst ho'
        exact .inr ⟨(k.slots s h).unclaimed_own c (Device.findReel_mem hr) slot, .inl (by rw [freed]; rfl)⟩
      by_cases hn' : m = n
      · subst hn'
        exact .inr ⟨(k.slots s h).unclaimed (by rw [free]; rfl) _,
          .inr ⟨_, rfl, by rw [taken]; simp [Reel.slotState, hid], by rw [taken, hid]; rfl⟩⟩
      · refine .inl ⟨(Device.slot_setSlot_other _ _ ho').trans (d.slot_setSlot_other _ hn'), ?_⟩
        rintro x hx w hw
        cases hx
        cases slot.symm.trans hw
        exact ho' rfl
  · rw [isLoaded_some, isLoaded_some]
    simp [state]

/-- A slot that no reel holds is opened or closed (R24, R25). -/
theorem setSlot (k : ShelfLaw S P) (h : P d) (hn : n < 256) {v : SlotState} (was : (d.slot n).owner? = none)
    (is : v.owner? = none) : P (d.setSlot n v) :=
  k.replace h ((k.catalogue h).replaced_slot is fun s => ⟨hn, (k.slots s h).unclaimed was _⟩) .rfl

end ShelfLaw

end

end Sys2Proof.Machine
end

section
/-! The catalogue and the vault, request by request: ids, places, the hold queue, slots and passes (R1 to R18, R22 to R32). -/

namespace Sys2Proof.Machine

/-! ### The requests and events of the catalogue and the vault -/

theorem withReel_cases (id : BitVec 32) (d : Device) (f : Reel → Device × Answer) :
    (withReel id d f).1 = d ∨ ∃ r, d.Names id r ∧ withReel id d f = f r := by
  rw [withReel]
  split
  · exact .inl rfl
  · split
    · exact .inl rfl
    · exact .inr ⟨_, ⟨‹_›, ‹_›⟩, rfl⟩

theorem withSlot_cases (slot : BitVec 16) (d : Device) (f : Nat → SlotState → Device × Answer) :
    (withSlot slot d f).1 = d
    ∨ slot.toNat < 256 ∧ withSlot slot d f = f slot.toNat (d.slot slot.toNat) := by
  rw [withSlot]
  split
  · exact .inl rfl
  · exact .inr ⟨by omega, rfl⟩

theorem Device.slot_lt {d : Device} {n : Nat} (h : d.slot n ≠ .closed) : n < 256 := by
  by_contra hn
  exact h (by simp [Device.slot, hn])

theorem Device.slot_lt_of_free {d : Device} {n : Nat} (h : d.slot n = .free) : n < 256 :=
  Device.slot_lt (d := d) (by simp [h])

theorem Device.arrival_cases (d : Device) (z : Zone) :
    (d.arrival z).slot? = none ∧ d.arrival z ≠ .hold ∧ d.arrival z ≠ .loaded := by
  simp only [Device.arrival]
  split <;> simp [ReelState.slot?]

/-- The requests that begin or end a session. -/
def movesSession : Request → Bool
  | .restartSuite | .loadReel .. | .unloadReel _ => true
  | _ => false

namespace ShelfLaw
variable {S : Prop} {P : Device → Prop} {d : Device} {r : Reel}

theorem find (k : ShelfLaw S P) (h : P d) {id : BitVec 32} (hr : d.Names id r) : d.findReel r.id = some r :=
  (k.catalogue h).find (Device.findReel_mem hr.2)

theorem post (k : ShelfLaw S P) (h : P d) (kind : NoticeKind) (subject detail : Nat) :
    P (d.post kind subject detail) := k.same h rfl rfl rfl

theorem noticeMisplaced (k : ShelfLaw S P) (h : P d) (id : Nat) : P (d.noticeMisplaced id) := by
  simp only [Device.noticeMisplaced]
  repeat' split
  all_goals first | exact h | exact k.post h _ _ _

theorem misplacedWalk (k : ShelfLaw S P) (ids : List Nat) (h : P d) :
    P (ids.foldl (fun d id => d.noticeMisplaced id) d) := by
  induction ids generalizing d with
  | nil => exact h
  | cons id ids ih => exact ih (k.noticeMisplaced h id)

/-- The sweep offers every FREE slot (R28). -/
theorem sweep (k : ShelfLaw S P) (slots : List Nat) (h : P d) : P (slots.foldl Device.offerIfFree d) := by
  induction slots generalizing d with
  | nil => exact h
  | cons n slots ih =>
    refine ih ?_
    rw [Device.offerIfFree]
    split
    · rename_i free
      exact k.offer h fun _ => ⟨Device.slot_lt_of_free free, free⟩
    · exact h

theorem enrolReel (k : ShelfLaw S P) (h : P d) (op : EnrolOperands) : P (answerEnrolReel op d).1 := by
  simp only [answerEnrolReel, refuse]
  split
  · exact h
  · rename_i reel _ _
    split
    · exact h
    · split
      · exact h
      · rename_i fresh few
        have fresh := Option.not_isSome_iff_eq_none.mp fresh
        have few := Nat.not_le.mp few
        split
        · split
          · exact h
          · rename_i n _ taken
            have free := not_not.mp taken
            exact k.noticeMisplaced (k.enrolShelved (r := { reel with state := .shelved n }) h fresh few rfl free
              (Device.slot_lt_of_free free)) _
        · obtain ⟨slot, hold, loaded⟩ := d.arrival_cases ‹_›
          exact k.enrolSuite h fresh few slot hold loaded

theorem withdrawReel (k : ShelfLaw S P) (h : P d) (id : BitVec 32) : P (answerWithdrawReel id d).1 := by
  rw [answerWithdrawReel]
  obtain e | ⟨r, hr, e⟩ := withReel_cases id d _ <;> rw [e]
  · exact h
  · have c := k.catalogue h
    have found := k.find h hr
    split
    · rename_i n state
      refine k.offer (k.deleteShelved h found state) fun s => ?_
      have hn := ((k.slots s h).1 r (Device.findReel_mem found) n (.occupied r.id) (by simp [Reel.slotState, state])).1
      exact ⟨hn, Device.slot_setSlot_same _ _ hn⟩
    · exact k.deleteUnshelved h found (by simp [ReelState.slot?, *]) (by simp [*]) rfl rfl c.2.2.2.1
        (c.held_other found (by simp [*]))
    · exact k.deleteUnshelved h found (by simp [ReelState.slot?, *]) (by simp [*]) rfl rfl c.2.2.2.1
        (c.held_other found (by simp [*]))
    · exact k.deleteUnshelved h found (by simp [ReelState.slot?, *]) (by simp [*]) rfl rfl (c.2.2.2.1.erase _)
        c.held_erase
    all_goals exact h

theorem requestReel (k : ShelfLaw S P) (h : P d) (id : BitVec 32) : P (answerRequestReel id d).1 := by
  rw [answerRequestReel]
  obtain e | ⟨r, hr, e⟩ := withReel_cases id d _ <;> rw [e]
  · exact h
  · split
    · exact k.amend h (k.find h hr) (fun _ => rfl) (by simp [Reel.slotState, *]) (by simp [*]) (by simp [*])
    all_goals exact h

/-- A slot just freed by the reel it names is FREE, where the slots are watched. -/
theorem freed (k : ShelfLaw S P) (h : P d) (hr : r ∈ d.reels) {n : Nat} {v : SlotState}
    (slot : r.slotState = some (n, v)) (s : S) : n < 256 ∧ (d.freeSlot n).slot n = .free :=
  have hn := ((k.slots s h).1 r hr n v slot).1
  ⟨hn, Device.slot_setSlot_same _ _ hn⟩

theorem reelArrived (k : ShelfLaw S P) (h : P d) (id : BitVec 32) : P (answerReelArrived id d).1 := by
  rw [answerReelArrived]
  obtain e | ⟨r, hr, e⟩ := withReel_cases id d _ <;> rw [e]
  · exact h
  · have found := k.find h hr
    split
    · rename_i n state
      have slot : r.slotState = some (n, .occupied r.id) := by simp [Reel.slotState, state]
      obtain ⟨none, hold, loaded⟩ := d.arrival_cases (zoneOf n)
      exact k.offer (k.leaveSlot h found slot none hold loaded) (k.freed h (Device.findReel_mem found) slot)
    all_goals exact h

theorem reelPlaced (k : ShelfLaw S P) (h : P d) (id : BitVec 32) (slot : BitVec 16) :
    P (answerReelPlaced id slot d).1 := by
  rw [answerReelPlaced]
  obtain e | ⟨r, hr, e⟩ := withReel_cases id d _ <;> rw [e]
  · exact h
  · have found := k.find h hr
    obtain e | ⟨hn, e⟩ := withSlot_cases slot d _ <;> rw [e]
    · exact h
    · simp only [refuse]
      split
      · rename_i old state
        split
        · rename_i own
          exact k.shelveOwn h found (own ▸ state)
        · split
          · rename_i free
            refine k.offer (k.shelveOther h found state hn free.1) fun s => ?_
            have ho := ((k.slots s h).1 r (Device.findReel_mem found) old (.reserved r.id)
              (by simp [Reel.slotState, state])).1
            exact ⟨ho, Device.slot_setSlot_same _ _ ho⟩
          · exact h
      all_goals exact h

theorem recallReel (k : ShelfLaw S P) (h : P d) (id : BitVec 32) : P (answerRecallReel id d).1 := by
  rw [answerRecallReel]
  obtain e | ⟨r, hr, e⟩ := withReel_cases id d _ <;> rw [e]
  · exact h
  · have found := k.find h hr
    simp only [refuse]
    split
    · rename_i n state
      have slot : r.slotState = some (n, .reserved r.id) := by simp [Reel.slotState, state]
      exact k.offer (k.leaveSlot h found slot (state := .ready) rfl (by simp) (by simp))
        (k.freed h (Device.findReel_mem found) slot)
    · exact k.recallHeld h found ‹_›
    all_goals exact h

theorem setCondition (k : ShelfLaw S P) (h : P d) (op : ConditionOperands) : P (answerSetCondition op d).1 := by
  rw [answerSetCondition]
  obtain e | ⟨r, hr, e⟩ := withReel_cases op.reelId d _ <;> rw [e]
  · exact h
  · split
    · rename_i permit cls _ _
      exact k.noticeMisplaced (k.amend h (k.find h hr)
        (f := fun x => { x with cls := cls, permit := permit, fadeRef := op.fade.map clampDensity })
        (fun _ => rfl) rfl .rfl .rfl) _
    · exact h

theorem grantPasses (k : ShelfLaw S P) (h : P d) (id : BitVec 32) (n : Byte) : P (answerGrantPasses id n d).1 := by
  rw [answerGrantPasses]
  obtain e | ⟨r, hr, e⟩ := withReel_cases id d _ <;> rw [e]
  · exact h
  · exact k.amend h (k.find h hr) (fun _ => rfl) rfl .rfl .rfl

theorem closeSlot (k : ShelfLaw S P) (h : P d) (slot : BitVec 16) : P (answerCloseSlot slot d).1 := by
  rw [answerCloseSlot]
  obtain e | ⟨hn, e⟩ := withSlot_cases slot d _ <;> rw [e]
  · exact h
  · split
    · rename_i free
      exact k.setSlot h hn (by rw [free]; rfl) rfl
    · exact h

theorem openSlot (k : ShelfLaw S P) (h : P d) (slot : BitVec 16) : P (answerOpenSlot slot d).1 := by
  rw [answerOpenSlot]
  obtain e | ⟨hn, e⟩ := withSlot_cases slot d _ <;> rw [e]
  · exact h
  · split
    · rename_i closed
      exact k.offer (k.setSlot h hn (by rw [closed]; rfl) rfl) fun _ => ⟨hn, Device.slot_setSlot_same _ _ hn⟩
    · exact h

theorem setZonePolicy (k : ShelfLaw S P) (h : P d) (cls mask : Byte) : P (answerSetZonePolicy cls mask d).1 := by
  obtain e | ⟨cls', ids, slots, e⟩ := answerSetZonePolicy_cases cls mask d <;> rw [e]
  · exact h
  · exact k.sweep slots (k.misplacedWalk ids (k.same h rfl rfl rfl))

/-- A pass of the LOADED reel begins (R17). -/
theorem runPass (k : ShelfLaw S P) (h : P d) (first last : FrameRef) (speed : Byte) :
    P (answerRunPass first last speed d).1 := by
  have started : ∀ r p, d.loadedReel = some r → P (d.startPass r p) := by
    intro r p loaded
    have found := (k.catalogue h).find (Device.loadedReel_mem loaded)
    have spent := k.amend h found (f := Reel.spendPass) (fun _ => rfl) rfl .rfl .rfl
    rw [Device.startPass]
    obtain e | e | ⟨_, e⟩ := Device.startLeg_cases p.first _ <;> rw [e] <;> exact k.same spent rfl rfl rfl
  simp only [answerRunPass, withFrame, refuse]
  repeat' split
  all_goals first | exact h | exact started _ _ ‹_›

/-- Every answer but those that begin or end a session. -/
theorem answer (k : ShelfLaw S P) (l : HostLink) (q : Request) (ordinary : movesSession q = false) (h : P d) :
    P (carryOut l q d).1 := by
  cases q with
  | restartSuite => cases ordinary
  | loadReel => cases ordinary
  | unloadReel => cases ordinary
  | enrolReel op => exact k.enrolReel h op
  | withdrawReel id => exact k.withdrawReel h id
  | requestReel id => exact k.requestReel h id
  | reelArrived id => exact k.reelArrived h id
  | reelPlaced id slot => exact k.reelPlaced h id slot
  | recallReel id => exact k.recallReel h id
  | setCondition op => exact k.setCondition h op
  | grantPasses id n => exact k.grantPasses h id n
  | closeSlot slot => exact k.closeSlot h slot
  | openSlot slot => exact k.openSlot h slot
  | setZonePolicy cls mask => exact k.setZonePolicy h cls mask
  | runPass first last speed => exact k.runPass h first last speed
  | setZoneTime zone minutes =>
    simp only [carryOut, answerSetZoneTime, withZone, refuse]
    split
    · exact k.same h rfl rfl rfl
    · exact h
  | _ => exact k.same h (by simp [carryOut]) (by simp [carryOut]) (by simp [carryOut])

theorem escalate (k : ShelfLaw S P) (h : P d) (n : Nat) : P (d.escalate n) := by
  simp only [Device.escalate]
  split
  · exact h
  · rename_i r loaded
    have found := (k.catalogue h).find (Device.loadedReel_mem loaded)
    have raised := k.amend h found (f := fun x => { x with shrinkage := max r.shrinkage n }) (fun _ => rfl) rfl .rfl .rfl
    split
    · exact raised
    · rename_i cls _
      split
      · exact raised
      · have capped := k.amend raised (Device.findReel_setReel (fun _ => rfl) found)
          (f := fun x => { x with cls := cls, passes := min x.passes (defaultPasses cls) }) (fun _ => rfl) rfl .rfl .rfl
        have posted := k.post capped .conditionRaised r.id cls.code
        split
        · exact k.same posted (by simp only [Device.askEnd_frame]) (by simp only [Device.askEnd_frame])
            (by simp only [Device.askEnd_frame])
        · exact posted

theorem acclimatized (k : ShelfLaw S P) (h : P d) (id : Nat) : P (d.acclimatized id) := by
  rw [Device.acclimatized]
  split
  · rename_i r found
    split
    · have waiting : ∃ deadline, r.state = .acclimatizing deadline := by
        cases e : r.state <;> simp_all [ReelState.deadline?, Device.reached]
      obtain ⟨_, state⟩ := waiting
      exact k.post (k.amend h ((k.catalogue h).find (Device.findReel_mem found))
        (f := fun x => { x with state := .ready }) (fun _ => rfl) (by simp [Reel.slotState, state]) (by simp [state])
        (by simp [state])) _ _ _
    · exact h
  · exact h

/-- A property of catalogue and vault that a load, an unload and a restart keep too is calm. -/
theorem calm (k : ShelfLaw S P) (session : ∀ l q d, movesSession q = true → P d → P (carryOut l q d).1) :
    Calm P where
  tc _ _ h := k.same h rfl rfl rfl
  post _ _ _ _ h := k.post h _ _ _
  answer l q d h := by
    cases e : movesSession q with
    | true => exact session l q d e h
    | false => exact k.answer l q e h
  count _ _ h := k.same h rfl rfl rfl
  finding _ _ h := k.same h (by simp) (by simp) (by simp)
  tracker _ _ h := k.same h rfl rfl rfl
  latch _ _ h := k.same h rfl rfl rfl
  escalate _ _ h := k.escalate h _
  issue _ _ _ h := k.same h rfl rfl rfl
  retire _ _ h := k.same h rfl rfl rfl
  gaps _ _ _ h := k.same h rfl rfl rfl
  resolveGaps _ _ h := k.same h rfl rfl rfl
  takeStatistics _ _ _ h := k.same h rfl rfl rfl
  clipped _ _ h := k.same h rfl rfl rfl
  acclimatized _ _ h := k.acclimatized h _
  time _ _ h := k.same h rfl rfl rfl
  draws _ _ h := k.same h rfl rfl rfl
  orderSent _ h := k.same h rfl rfl rfl
  port _ _ _ h := k.same h rfl rfl rfl

end ShelfLaw

/-! ### A load, an unload and a restart (R8, R11, R20, R30) -/

/-- The catalogue's invariant, with that of the slots where they are watched. -/
def Device.ShelvesInv (S : Prop) (d : Device) : Prop := d.CatalogueInv ∧ (S → d.SlotInv)

section
variable {S : Prop} {d e : Device} {r : Reel} {id : Nat}

theorem Device.ShelvesInv.replace {old new : Option Reel} (h : d.ShelvesInv S) (k : d.Replaced S e old new)
    (loaded : IsLoaded new → IsLoaded old ∨ d.loadedReel = none) : e.ShelvesInv S :=
  ⟨h.1.replace k loaded, fun s => (h.2 s).replace k s⟩

theorem shelvesLaw (S : Prop) : ShelfLaw S (Device.ShelvesInv S) where
  catalogue h := h.1
  slots s h := h.2 s
  same h reels slots hold := ⟨h.1.congr reels hold, fun s => (h.2 s).congr reels slots⟩
  replace h k loaded := h.replace k fun l => .inl (loaded.mpr l)

theorem Device.ShelvesInv.startSession (h : d.ShelvesInv S) (hr : d.findReel r.id = some r) (state : r.state = .ready)
    (unloaded : d.loadedReel = none) (head : Nat) : (d.startSession r head).ShelvesInv S := by
  have loaded : (d.setReel r.id fun x => { x with state := .loaded, sessionLost := false }).ShelvesInv S := by
    refine h.replace (h.1.replaced_setReel (f := fun x => { x with state := .loaded, sessionLost := false }) hr
      (fun _ => rfl) rfl h.1.hold_nodup (fun j => ?_) fun s => (h.2 s).follow_same h.1 (Device.findReel_mem hr)
        (by simp [Reel.slotState, state]) rfl rfl) fun _ => .inr unloaded
    simpa using h.1.held_other hr (by simp [state]) j
  exact (shelvesLaw S).same loaded rfl rfl rfl

theorem Device.ShelvesInv.loadReel (h : d.ShelvesInv S) (id : BitVec 32) (head : Option (BitVec 16)) :
    (answerLoadReel id head d).1.ShelvesInv S := by
  simp only [answerLoadReel]
  obtain e | ⟨r, hr, e⟩ := withReel_cases id d _ <;> rw [e]
  · exact h
  · simp only [refuse]
    repeat' split
    · exact h
    · exact h
    · rename_i ready
      push Not at ready
      exact h.startSession ((shelvesLaw S).find h hr) ready.1 (by simpa using ready.2) _

/-- The reel goes to a FREE slot, or to the hold queue (R30). -/
theorem Device.ShelvesInv.sendBack (h : d.ShelvesInv S) (hr : d.findReel r.id = some r) (state : r.state = .loaded) :
    (d.sendBack r).ShelvesInv S := by
  rw [Device.sendBack]
  split
  · rename_i n chosen
    obtain ⟨_, _, _, -, ⟨hn, -, free⟩, -, -⟩ := (d.returnSlot_eq_some_iff r n).mp chosen
    refine h.replace (h.1.replaced_setReel (f := fun x => { x with state := .returning n }) hr (fun _ => rfl) rfl
      h.1.hold_nodup (fun j => ?_) fun s => ?_) fun l => ?_
    · simpa using h.1.held_other hr (by simp [state]) j
    · refine .set (n := n) (v := .reserved r.id) hn ((h.2 s).unclaimed (by rw [free]; rfl) _) ?_ rfl
        (.inr ⟨_, rfl, by simp [Reel.slotState]⟩)
      rintro x hx m w hw
      cases hx
      simp [Reel.slotState, state] at hw
    · simp [isLoaded_some] at l
  · refine (shelvesLaw S).post ?_ _ _ _
    refine h.replace (h.1.replaced_setReel (f := fun x => { x with state := .hold }) hr (fun _ => rfl) rfl ?_
      (fun j => ?_) fun s => (h.2 s).follow_same h.1 (Device.findReel_mem hr) ?_ rfl rfl) fun l => ?_
    · refine List.nodup_append.mpr ⟨h.1.hold_nodup, by simp, ?_⟩
      rintro _ held _ last rfl
      rw [List.mem_singleton.mp last, h.1.held_iff (Device.findReel_mem hr), state] at held
      cases held
    · simpa using h.1.held_append hr (by simp [state]) j
    · simp [Reel.slotState, state]
    · simp [isLoaded_some] at l

theorem Device.ShelvesInv.endSession (h : d.ShelvesInv S) (hr : d.findReel id = some r) (state : r.state = .loaded)
    (graded : Bool) (deferred : Nat) : (d.endSession id graded deferred).ShelvesInv S := by
  have k := shelvesLaw S
  have stored := k.amend h hr (f := fun x => { x with graded := graded, deferred := deferred }) (fun _ => rfl) rfl .rfl
    .rfl
  have found := Device.findReel_setReel (f := fun x => { x with graded := graded, deferred := deferred }) (fun _ => rfl) hr
  rw [Device.endSession]
  have dropped : (d.setReel id fun x => { x with graded := graded, deferred := deferred }).discardOrders.ShelvesInv S :=
    k.same stored rfl rfl rfl
  split
  · rename_i x hx
    cases hx.symm.trans found
    have hid := Device.findReel_id hr
    subst hid
    have sent := dropped.sendBack (r := { r with graded := graded, deferred := deferred }) found state
    exact k.same sent rfl rfl rfl
  · exact k.same dropped rfl rfl rfl

theorem Device.ShelvesInv.unloadReel (h : d.ShelvesInv S) (force : Byte) : (answerUnloadReel force d).1.ShelvesInv S := by
  simp only [answerUnloadReel, refuse, refuseWith]
  split
  · exact h
  · split
    · exact h
    · rename_i r loaded
      have found := h.1.find (Device.loadedReel_mem loaded)
      have state := Device.loadedReel_state loaded
      have closed : d.closeOpenWork.ShelvesInv S := (shelvesLaw S).same h rfl rfl rfl
      repeat' split
      · exact h
      · exact closed.endSession found state _ _
      · exact h
      · exact h.endSession found state _ _

@[simp] theorem Reel.restarted_id (r : Reel) : r.restarted.id = r.id := by
  rw [Reel.restarted]
  split <;> rfl

@[simp] theorem Reel.restarted_slotState (r : Reel) : r.restarted.slotState = r.slotState := by
  rw [Reel.restarted]
  split <;> simp [Reel.slotState, *]

theorem Reel.restarted_hold_iff (r : Reel) : r.restarted.state = .hold ↔ r.state = .hold := by
  rw [Reel.restarted]
  split <;> simp [*]

theorem Reel.restarted_not_loaded (r : Reel) : r.restarted.state ≠ .loaded := by
  rw [Reel.restarted]
  split
  · simp
  · assumption

theorem Device.ShelvesInv.restarted (h : d.ShelvesInv S) : d.restarted.ShelvesInv S := by
  obtain ⟨⟨ids, length, -, holdOnce, held⟩, slots⟩ := h
  refine ⟨⟨?_, ?_, ?_, holdOnce, fun id => ?_⟩, fun s => ?_⟩
  · simpa [Device.restarted, Function.comp_def] using ids
  · simpa [Device.restarted] using length
  · simp [Device.restarted, List.countP_eq_zero.mpr, Reel.restarted_not_loaded]
  · simp [Device.restarted, held, Reel.restarted_hold_iff]
  · obtain ⟨claims, owners⟩ := slots s
    refine ⟨fun x hx n v hv => ?_, fun n hn id owner => ?_⟩
    · obtain ⟨r, hr, rfl⟩ := List.mem_map.mp hx
      exact claims r hr n v (r.restarted_slotState ▸ hv)
    · obtain ⟨r, hr, hid, hv⟩ := owners n hn id owner
      exact ⟨r.restarted, List.mem_map_of_mem hr, r.restarted_id.trans hid, r.restarted_slotState.trans hv⟩

theorem shelvesCalm (S : Prop) : Calm (Device.ShelvesInv S) :=
  (shelvesLaw S).calm fun l q d session h => by
    cases q with
    | restartSuite => exact h.restarted
    | loadReel id head => exact h.loadReel id head
    | unloadReel force => exact h.unloadReel force
    | _ => cases session

theorem Device.reset_shelvesInv (S : Prop) : Device.reset.ShelvesInv S := by
  refine ⟨by simp [Device.CatalogueInv, Device.reset], fun _ => ⟨by simp [Device.reset], fun n hn id owner => ?_⟩⟩
  have free : Device.reset.slot n = .free := by simp [Device.slot, Device.reset, hn]
  rw [free] at owner
  cases owner

/-! ### Passes remaining (R17) -/

theorem Device.PassesInv.congr (h : d.PassesInv) (reels : e.reels = d.reels) : e.PassesInv := by
  rwa [Device.PassesInv, reels]

theorem Device.PassesInv.setReel (h : d.PassesInv) (id : Nat) {f : Reel → Reel}
    (hf : ∀ x, x.passes ≤ 15 → (f x).passes ≤ 15) : (d.setReel id f).PassesInv := by
  intro x hx
  obtain ⟨y, hy, rfl⟩ := List.mem_map.mp hx
  split
  · exact hf y (h y hy)
  · exact h y hy

theorem Device.PassesInv.deleteReel (h : d.PassesInv) (id : Nat) : (d.deleteReel id).PassesInv :=
  fun x hx => h x (List.mem_of_mem_filter hx)

theorem Device.PassesInv.append (h : d.PassesInv) (few : r.passes ≤ 15) (reels : e.reels = d.reels ++ [r]) :
    e.PassesInv := by
  intro x hx
  rw [reels, List.mem_append, List.mem_singleton] at hx
  obtain hx | rfl := hx
  · exact h x hx
  · exact few

/-- A change of the reel's place keeps its passes. -/
theorem Device.PassesInv.setState (h : d.PassesInv) (id : Nat) (state : ReelState) :
    (d.setReel id fun x => { x with state := state }).PassesInv := h.setReel id fun _ hx => hx

theorem Device.PassesInv.offer (h : d.PassesInv) (n : Nat) : (d.offer n).PassesInv := by
  obtain e | ⟨id, r, -, -, -, e⟩ := d.offer_cases n <;> rw [e]
  · exact h
  · exact (h.setState id (.returning n)).congr rfl

theorem Device.PassesInv.sweep (h : d.PassesInv) (slots : List Nat) : (slots.foldl Device.offerIfFree d).PassesInv := by
  induction slots generalizing d with
  | nil => exact h
  | cons n slots ih =>
    refine ih ?_
    rw [Device.offerIfFree]
    split
    · exact h.offer n
    · exact h

/-- The passes an enrolment gives are 0 to 15, or a class default (R2, R3). -/
theorem readPasses_le {cls : DecayClass} {b : Byte} {n : Nat} (h : readPasses cls b = some n) : n ≤ 15 := by
  simp only [readPasses] at h
  split at h
  · cases h
    assumption
  · split at h
    · cases h
      cases cls <;> decide
    · cases h

theorem readEnrol_passes {op : EnrolOperands} {r : Reel} {l : Location} (h : readEnrol op = some (r, l)) :
    r.passes ≤ 15 := by
  simp only [readEnrol, bind, Option.bind_eq_some_iff] at h
  obtain ⟨_, -, _, -, _, -, passes, read, _, -, _, -, h⟩ := h
  split at h
  · cases h
  · cases h
    exact readPasses_le read

theorem Device.PassesInv.endSession (h : d.PassesInv) (id : Nat) (graded : Bool) (deferred : Nat) :
    (d.endSession id graded deferred).PassesInv := by
  have stored := h.setReel id (f := fun x => { x with graded := graded, deferred := deferred }) fun _ hx => hx
  rw [Device.endSession]
  split
  · rw [Device.sendBack]
    split
    · exact stored.setState _ _
    · exact stored.setState _ _
  · exact stored

theorem Device.PassesInv.escalate (h : d.PassesInv) (n : Nat) : (d.escalate n).PassesInv := by
  simp only [Device.escalate]
  split
  · exact h
  · rename_i r _
    have raised := h.setReel r.id (f := fun x => { x with shrinkage := max r.shrinkage n }) fun _ hx => hx
    split
    · exact raised
    · rename_i cls _
      have capped := raised.setReel r.id (f := fun x => { x with cls := cls, passes := min x.passes (defaultPasses cls) })
        fun _ hx => (Nat.min_le_left _ _).trans hx
      repeat' split
      · exact raised
      · exact capped.congr (by rw [(Device.askEnd_frame _ _).1]; rfl)
      · exact capped

theorem Device.PassesInv.startPass (h : d.PassesInv) (r : Reel) (p : PassRecord) : (d.startPass r p).PassesInv := by
  have spent := h.setReel r.id (f := Reel.spendPass) fun x hx => (Nat.sub_le _ _).trans hx
  rw [Device.startPass]
  obtain e | e | ⟨_, e⟩ := Device.startLeg_cases p.first _ <;> rw [e] <;> exact spent

theorem Device.PassesInv.freeSlot (h : d.PassesInv) (n : Nat) : (d.freeSlot n).PassesInv := h

theorem Device.PassesInv.enrolReel (h : d.PassesInv) (op : EnrolOperands) : (answerEnrolReel op d).1.PassesInv := by
  simp only [answerEnrolReel, refuse]
  split
  · exact h
  · rename_i reel _ read
    have few := readEnrol_passes read
    repeat' split
    · exact h
    · exact h
    · exact h
    · rename_i n _
      exact h.append (r := { reel with state := .shelved n }) few (by simp)
    · rename_i z
      exact h.append (r := { reel with state := d.arrival z }) few rfl

theorem Device.PassesInv.withdrawReel (h : d.PassesInv) (id : BitVec 32) : (answerWithdrawReel id d).1.PassesInv := by
  rw [answerWithdrawReel]
  obtain e | ⟨r, -, e⟩ := withReel_cases id d _ <;> rw [e]
  · exact h
  · have left := h.deleteReel r.id
    split
    · exact (left.freeSlot _).offer _
    · exact left
    · exact left
    · exact left
    all_goals exact h

theorem Device.PassesInv.requestReel (h : d.PassesInv) (id : BitVec 32) : (answerRequestReel id d).1.PassesInv := by
  rw [answerRequestReel]
  obtain e | ⟨r, -, e⟩ := withReel_cases id d _ <;> rw [e]
  · exact h
  · split
    · exact h.setState _ _
    all_goals exact h

theorem Device.PassesInv.reelArrived (h : d.PassesInv) (id : BitVec 32) : (answerReelArrived id d).1.PassesInv := by
  rw [answerReelArrived]
  obtain e | ⟨r, -, e⟩ := withReel_cases id d _ <;> rw [e]
  · exact h
  · split
    · exact ((h.freeSlot _).setState _ _).offer _
    all_goals exact h

theorem Device.PassesInv.loadReel (h : d.PassesInv) (id : BitVec 32) (head : Option (BitVec 16)) :
    (answerLoadReel id head d).1.PassesInv := by
  simp only [answerLoadReel]
  obtain e | ⟨r, -, e⟩ := withReel_cases id d _ <;> rw [e]
  · exact h
  · have loaded := h.setReel r.id (f := fun x => { x with state := .loaded, sessionLost := false }) fun _ hx => hx
    simp only [refuse]
    repeat' split
    · exact h
    · exact h
    · exact loaded.congr rfl

theorem Device.PassesInv.unloadReel (h : d.PassesInv) (force : Byte) : (answerUnloadReel force d).1.PassesInv := by
  have closed : d.closeOpenWork.PassesInv := h
  simp only [answerUnloadReel, refuse, refuseWith]
  repeat' split
  · exact h
  · exact h
  · exact h
  · exact closed.endSession _ _ _
  · exact h
  · exact h.endSession _ _ _

theorem Device.PassesInv.reelPlaced (h : d.PassesInv) (id : BitVec 32) (slot : BitVec 16) :
    (answerReelPlaced id slot d).1.PassesInv := by
  rw [answerReelPlaced]
  obtain e | ⟨r, -, e⟩ := withReel_cases id d _ <;> rw [e]
  · exact h
  · obtain e | ⟨-, e⟩ := withSlot_cases slot d _ <;> rw [e]
    · exact h
    · have shelved : (d.shelveReel r.id slot.toNat).PassesInv := h.setState r.id (.shelved slot.toNat)
      simp only [refuse]
      split
      · repeat' split
        · exact shelved
        · exact (shelved.freeSlot _).offer _
        · exact h
      all_goals exact h

theorem Device.PassesInv.recallReel (h : d.PassesInv) (id : BitVec 32) : (answerRecallReel id d).1.PassesInv := by
  rw [answerRecallReel]
  obtain e | ⟨r, -, e⟩ := withReel_cases id d _ <;> rw [e]
  · exact h
  · simp only [refuse]
    split
    · exact ((h.freeSlot _).setState _ _).offer _
    · exact h.setState _ _
    all_goals exact h

theorem Device.PassesInv.setCondition (h : d.PassesInv) (op : ConditionOperands) :
    (answerSetCondition op d).1.PassesInv := by
  rw [answerSetCondition]
  obtain e | ⟨r, -, e⟩ := withReel_cases op.reelId d _ <;> rw [e]
  · exact h
  · split
    · rename_i permit cls _ _
      have set := h.setReel r.id
        (f := fun x => { x with cls := cls, permit := permit, fadeRef := op.fade.map clampDensity }) fun _ hx => hx
      exact set.congr (by simp)
    · exact h

theorem carryOut_passesInv (l : HostLink) (q : Request) (h : d.PassesInv) : (carryOut l q d).1.PassesInv := by
  cases q with
  | restartSuite =>
    intro x hx
    obtain ⟨r, hr, rfl⟩ := List.mem_map.mp hx
    have same : r.restarted.passes = r.passes := by
      rw [Reel.restarted]
      split <;> rfl
    exact same ▸ h r hr
  | enrolReel op => exact h.enrolReel op
  | withdrawReel id => exact h.withdrawReel id
  | requestReel id => exact h.requestReel id
  | reelArrived id => exact h.reelArrived id
  | loadReel id head => exact h.loadReel id head
  | unloadReel force => exact h.unloadReel force
  | reelPlaced id slot => exact h.reelPlaced id slot
  | recallReel id => exact h.recallReel id
  | setCondition op => exact h.setCondition op
  | grantPasses id n =>
    rw [carryOut, answerGrantPasses]
    obtain e | ⟨r, -, e⟩ := withReel_cases id d _ <;> rw [e]
    · exact h
    · exact h.setReel _ fun _ _ => Nat.min_le_left _ _
  | openSlot slot =>
    rw [carryOut, answerOpenSlot]
    obtain e | ⟨-, e⟩ := withSlot_cases slot d _ <;> rw [e]
    · exact h
    · split
      · exact (h.freeSlot _).offer _
      · exact h
  | setZonePolicy cls mask =>
    obtain e | ⟨cls', ids, slots, e⟩ := answerSetZonePolicy_cases cls mask d <;> rw [carryOut, e]
    · exact h
    · exact Device.PassesInv.sweep (h.congr (by simp)) slots
  | runPass first last speed =>
    simp only [carryOut, answerRunPass, withFrame, refuse]
    repeat' split
    all_goals first | exact h | exact h.startPass _ _
  | _ => exact h.congr (by simp [carryOut])

end

theorem passesCalm : Calm Device.PassesInv where
  tc _ _ h := h
  post _ _ _ _ h := h
  answer l q _ h := carryOut_passesInv l q h
  count _ _ h := h
  finding _ _ h := h.congr (by simp)
  tracker _ _ h := h
  latch _ _ h := h
  escalate n _ h := h.escalate n
  issue _ _ _ h := h
  retire _ _ h := h
  gaps _ _ _ h := h
  resolveGaps _ _ h := h
  takeStatistics _ _ _ h := h
  clipped _ _ h := h
  acclimatized id d h := by
    simp only [Device.acclimatized]
    repeat' split
    · exact (h.setState _ .ready).congr rfl
    · exact h
    · exact h
  time _ _ h := h
  draws _ _ h := h
  orderSent _ h := h
  port _ _ _ h := h

/-- Settles O56. -/
theorem catalogueInvariantIsKept : Obligations.CatalogueInvariantIsKept := by
  intro c s t he
  refine ⟨fun h => ?_, fun h => ?_⟩
  · exact ((shelvesCalm False).exec (Device.reset_shelvesInv False) he ⟨h, False.elim⟩).1
  · exact passesCalm.exec (by simp [Device.PassesInv, Device.reset]) he h

/-- Settles O57. -/
theorem slotInvariantIsKept : Obligations.SlotInvariantIsKept :=
  fun _ _ _ c h he => ((shelvesCalm True).exec (Device.reset_shelvesInv True) he ⟨c, fun _ => h⟩).2 trivial

end Sys2Proof.Machine
end

section
/-! The host link: FIFO and reply queue within bounds, and a request waiting only behind a full reply queue (R172 to R176). -/

namespace Sys2Proof.Machine

/-- The link's invariant but for what waits: bounds, the reply in progress, an overrun during it, and the parser. -/
structure HostLink.Bounded (h : HostLink) : Prop where
  fifo : h.fifo.length ≤ 4
  replies : h.replies.length ≤ 4
  queued : h.sending.isSome → h.replies ≠ []
  overrun : h.overrunInReply = true → h.lost = true ∧ h.sending.isSome
  parser : h.parser.partial_

/-- A request waits only while the reply queue is full (R174). -/
def HostLink.WaitsFull (h : HostLink) : Prop := h.fifo ≠ [] → h.replies.length = 4

section
variable {s : State}

theorem State.linkInv_iff (s : State) : s.LinkInv ↔ s.link.Bounded ∧ s.link.WaitsFull :=
  ⟨fun ⟨fifo, replies, waits, queued, overrun, parser⟩ => ⟨⟨fifo, replies, queued, overrun, parser⟩, waits⟩,
    fun ⟨⟨fifo, replies, queued, overrun, parser⟩, waits⟩ => ⟨fifo, replies, waits, queued, overrun, parser⟩⟩

theorem HostLink.Bounded.setParser {h : HostLink} (b : h.Bounded) {p : Parser} (part : p.partial_) :
    ({ h with parser := p } : HostLink).Bounded :=
  ⟨b.fifo, b.replies, b.queued, b.overrun, part⟩

/-- A request taken leaves the FIFO, and at most one reply joins a queue that was not full (R174). -/
theorem HostLink.Bounded.take (b : s.link.Bounded) {q : HostRequest} {rest : List HostRequest}
    (waiting : s.link.fifo = q :: rest) (room : s.link.replies.length < 4) :
    (({ s with link.fifo := rest } : State).dispatch q).link.Bounded := by
  obtain ⟨d, replies, e, -, joined⟩ := ({ s with link.fifo := rest } : State).dispatch_cases q
  rw [e]
  have fifo := b.fifo
  rw [waiting, List.length_cons] at fifo
  obtain rfl | ⟨r, rfl⟩ := joined
  · exact ⟨Nat.le_of_succ_le fifo, b.replies, b.queued, b.overrun, b.parser⟩
  · exact ⟨Nat.le_of_succ_le fifo, by simp; omega, by simp, b.overrun, b.parser⟩

/-- Whatever stood before, serving leaves a request waiting only behind a full reply queue. -/
theorem HostLink.Bounded.serve (b : s.link.Bounded) : s.serve.LinkInv := by
  have bounded : s.serve.link.Bounded :=
    State.serve_induct (P := fun s => s.link.Bounded) (fun _ _ _ waiting room b => b.take waiting room) s b
  refine (State.linkInv_iff _).mpr ⟨bounded, fun waiting => ?_⟩
  obtain empty | full := s.serve_waits
  · exact absurd empty waiting
  · exact Nat.le_antisymm bounded.replies full

theorem HostLink.Bounded.offer (b : s.link.Bounded) (q : HostRequest) : (s.offer q).link.Bounded := by
  obtain ⟨room, e⟩ | ⟨-, e⟩ := s.offer_cases q <;> rw [e]
  · exact ⟨by simp; omega, b.replies, b.queued, b.overrun, b.parser⟩
  · exact ⟨b.fifo, b.replies, b.queued, fun sending => ⟨rfl, sending⟩, b.parser⟩

theorem State.submit_linkInv (h : s.LinkInv) (via : Envelope) (kind : Byte) (body : List Byte) :
    (s.submit via kind body).LinkInv :=
  (((State.linkInv_iff s).mp h).1.offer _).serve

/-! ### Characters, errors and breaks (R170 to R172) -/

/-- The parser and the device change, and queues and reply stay. -/
theorem State.LinkInv.reparse (h : s.LinkInv) {p : Parser} (part : p.partial_) (d : Device) :
    ({ s with link.parser := p, dev := d } : State).LinkInv :=
  have ⟨fifo, replies, waits, queued, overrun, _⟩ := h
  ⟨fifo, replies, waits, queued, overrun, part⟩

theorem State.LinkInv.setLine (h : s.LinkInv) (low : Bool) : ({ s with link.lineLow := low } : State).LinkInv := h

theorem HostLink.addressed_partial (h : HostLink) (value : Byte) : (h.addressed value).partial_ := by
  rw [HostLink.addressed]
  repeat' split
  · exact (rfl : frameProgress [] = .more)
  · exact (rfl : frameProgress [] = .more)
  · trivial

theorem State.hostData_linkInv (h : s.LinkInv) (broadcast : Bool) (taken : List Byte) :
    (s.hostData broadcast taken).LinkInv := by
  simp only [State.hostData]
  split
  · exact h.reparse (p := .receive broadcast taken) ‹_› _
  · exact h.reparse (p := .hunt) trivial _
  · exact h.reparse (p := .hunt) trivial _
  · have bounded := ((State.linkInv_iff s).mp h).1.setParser (p := .hunt) trivial
    exact (HostLink.Bounded.offer (s := { s with link.parser := .hunt, dev := s.dev.count .framesAccepted }) bounded
      _).serve

theorem State.hostChar_linkInv (h : s.LinkInv) (c : LineChar) : (s.hostChar c).LinkInv := by
  rw [State.hostChar]
  split
  · split
    · exact h.reparse (s.link.addressed_partial c.value) _
    · split
      · exact h
      · exact State.hostData_linkInv h _ _
  · exact h

theorem State.hostChars_linkInv (h : s.LinkInv) (chars : List LineChar) : (s.hostChars chars).LinkInv := by
  induction chars generalizing s with
  | nil => exact h
  | cons c chars ih => exact ih (State.hostChar_linkInv h c)

theorem State.hostDiscard_linkInv (h : s.LinkInv) (k : Counter) : (s.hostDiscard k).LinkInv := by
  rw [State.hostDiscard]
  split
  · exact h
  · exact h.reparse (p := .hunt) trivial _

theorem State.hostCharError_linkInv (h : s.LinkInv) : s.hostCharError.LinkInv := by
  rw [State.hostCharError]
  split
  · exact State.hostDiscard_linkInv h _
  · exact h

/-! ### Replies (R173, R176, R177) -/

theorem State.startReply_linkInv (h : s.LinkInv) : s.startReply.LinkInv := by
  rw [State.startReply]
  split
  · split
    · exact h
    · rename_i oldest
      obtain ⟨fifo, replies, waits, -, -, parser⟩ := h
      exact ⟨fifo, replies, waits, fun _ => by simp [oldest], fun o => (Bool.false_ne_true o).elim, parser⟩
  · exact h

/-- The end of a reply takes it from the queue, and the overrun flag goes with it. -/
theorem HostLink.Bounded.replyEnded {h : HostLink} (b : h.Bounded) (readBack : Bool) :
    (h.replyEnded readBack).Bounded :=
  ⟨b.fifo, by simpa using Nat.le_succ_of_le b.replies, by simp, by simp, b.parser⟩

theorem State.completeReply_linkInv (h : s.LinkInv) : s.completeReply.LinkInv := by
  rw [State.completeReply]
  split
  · exact h
  · exact HostLink.Bounded.serve (s := { s with link := s.link.replyEnded true })
      (((State.linkInv_iff s).mp h).1.replyEnded true)

theorem State.collide_linkInv (h : s.LinkInv) (position : Nat) : (s.collide position).LinkInv := by
  rw [State.collide]
  repeat' split
  · exact h
  · have ended := ((State.linkInv_iff s).mp h).1.replyEnded (decide (2 < position))
    exact HostLink.Bounded.serve (s := { s with
      link := { s.link.replyEnded (decide (2 < position)) with parser := .hunt }
      dev := s.dev.count .collisions }) (ended.setParser (p := .hunt) trivial)
  · exact h

theorem State.fullReset_linkInv (address : BitVec 3) (rate : BitVec 2) (s : State) :
    (s.fullReset address rate).LinkInv := by
  simp [State.LinkInv, State.fullReset, HostLink.reset, Parser.partial_]

end

/-- The commands that neither reach the host link nor reset it leave it as it is. -/
theorem State.LinkInv.setDev {s : State} (h : s.LinkInv) (d : Device) : ({ s with dev := d } : State).LinkInv := h

/-- Settles O54. -/
theorem linkInvariantIsKept : Obligations.LinkInvariantIsKept := by
  intro c s t h he
  cases c <;> injection he with he <;> subst he
  case fullReset => exact s.fullReset_linkInv _ _
  case requestFrame => exact State.hostChars_linkInv h _
  case hostCharacterError => exact State.hostCharError_linkInv h
  case hostGapTimeout => exact State.hostDiscard_linkInv h _
  case hostBreak => exact (State.hostCharError_linkInv h).setLine true
  case replyStart => exact State.startReply_linkInv h
  case replyComplete => exact State.completeReply_linkInv h
  case collision => exact State.collide_linkInv h _
  case hostLineReturnsHigh => exact h
  case addressCharacterOfOtherValue => exact State.hostChar_linkInv h _
  case runCounterTick | suiteClockTick | tensionSample | filmPresentRises | filmPresentFalls | perforationEdge |
    acclimatizationExpiry | reportDeadlineExpiry | threadingTimerExpiry | relaxTimerExpiry |
    strainWarningPersistenceExpiry | slipPersistenceExpiry | frameReport | pipelineCharacterError |
    pipelineGapTimeout | pipelineBreak | captureOrderSent | pipelineLineReturnsHigh |
    pipelineAddressOfOtherValue =>
    exact h.setDev _
  all_goals exact State.submit_linkInv h _ _ _

end Sys2Proof.Machine
end

section
/-! The work of a session: defects, repair work and shots stay in order, and there are shots exactly while a reel is
LOADED (R103, R119, R120 to R133, R140, R157). -/

namespace Sys2Proof.Machine

/-! ### Whether a reel is LOADED -/

/-- Every change of the catalogue but a load, an unload and a restart leaves it so whether a reel is LOADED. -/
theorem loadedLaw (b : Prop) : ShelfLaw False fun d => d.CatalogueInv ∧ (d.loadedReel = none ↔ b) where
  catalogue h := h.1
  slots s := s.elim
  same h reels _ hold := ⟨h.1.congr reels hold, by rw [Device.loadedReel_congr reels]; exact h.2⟩
  replace h k loaded := ⟨h.1.replace k fun l => .inl (loaded.mpr l), (k.loadedReel loaded).trans h.2⟩

section
variable {d e : Device}

theorem Device.CatalogueInv.answer_loaded (c : d.CatalogueInv) (l : HostLink) (q : Request)
    (ordinary : movesSession q = false) : (carryOut l q d).1.loadedReel = none ↔ d.loadedReel = none :=
  ((loadedLaw (d.loadedReel = none)).answer l q ordinary ⟨c, .rfl⟩).2

theorem Device.CatalogueInv.escalate_loaded (c : d.CatalogueInv) (n : Nat) :
    (d.escalate n).loadedReel = none ↔ d.loadedReel = none :=
  ((loadedLaw (d.loadedReel = none)).escalate ⟨c, .rfl⟩ n).2

theorem Device.CatalogueInv.acclimatized_loaded (c : d.CatalogueInv) (id : Nat) :
    (d.acclimatized id).loadedReel = none ↔ d.loadedReel = none :=
  ((loadedLaw (d.loadedReel = none)).acclimatized ⟨c, .rfl⟩ id).2

theorem Device.startSession_loaded {r : Reel} (hr : d.findReel r.id = some r) (head : Nat) :
    (d.startSession r head).loadedReel ≠ none := by
  rw [ne_eq, Device.loadedReel_eq_none_iff]
  exact fun none => none _ (List.mem_map.mpr ⟨r, Device.findReel_mem hr, if_pos rfl⟩) rfl

theorem Device.restarted_unloaded (d : Device) : d.restarted.loadedReel = none := by
  rw [Device.loadedReel_eq_none_iff]
  intro x hx
  obtain ⟨r, -, rfl⟩ := List.mem_map.mp hx
  exact r.restarted_not_loaded

/-- The one LOADED reel is replaced by a record that is not LOADED. -/
theorem Device.CatalogueInv.setReel_unloaded (c : d.CatalogueInv) {r : Reel} (hr : d.findReel r.id = some r)
    (loaded : r.state = .loaded) {f : Reel → Reel} (left : ∀ x, (f x).state ≠ .loaded)
    (reels : e.reels = (d.setReel r.id f).reels) : e.loadedReel = none := by
  rw [Device.loadedReel_eq_none_iff, reels]
  intro x hx
  obtain ⟨y, hy, rfl⟩ := List.mem_map.mp hx
  split
  · exact left y
  · rename_i other
    intro ly
    exact other (congrArg _ (c.loaded_unique hy (Device.findReel_mem hr) ly loaded))

theorem Device.CatalogueInv.sendBack_unloaded (c : d.CatalogueInv) {r : Reel} (hr : d.findReel r.id = some r)
    (loaded : r.state = .loaded) : (d.sendBack r).loadedReel = none := by
  rw [Device.sendBack]
  split
  · rename_i n _
    exact c.setReel_unloaded (f := fun x => { x with state := .returning n }) hr loaded (by simp) rfl
  · exact c.setReel_unloaded (f := fun x => { x with state := .hold }) hr loaded (by simp) rfl

theorem Device.CatalogueInv.endSession_unloaded (c : d.CatalogueInv) {r : Reel} (hr : d.findReel r.id = some r)
    (loaded : r.state = .loaded) (graded : Bool) (deferred : Nat) :
    (d.endSession r.id graded deferred).loadedReel = none := by
  have found := Device.findReel_setReel (f := fun x => { x with graded := graded, deferred := deferred }) (fun _ => rfl) hr
  have stored : (d.setReel r.id fun x => { x with graded := graded, deferred := deferred }).CatalogueInv :=
    ((shelvesLaw False).amend ⟨c, False.elim⟩ hr (f := fun x => { x with graded := graded, deferred := deferred })
      (fun _ => rfl) rfl .rfl .rfl).1
  have dropped : (d.setReel r.id fun x => { x with graded := graded, deferred := deferred }).discardOrders.CatalogueInv :=
    stored.congr rfl rfl
  rw [Device.endSession]
  split
  · rename_i x hx
    cases hx.symm.trans found
    exact dropped.sendBack_unloaded (r := { r with graded := graded, deferred := deferred }) found loaded
  · rename_i lost
    cases lost.symm.trans found

/-! ### The work -/

theorem Device.WorkInv.congr (h : d.WorkInv) (rq : e.rq = d.rq) (records : e.dm.records = d.dm.records)
    (shots : e.gu.shots = d.gu.shots) (loaded : e.loadedReel = none ↔ d.loadedReel = none) : e.WorkInv where
  map := by rw [DefectMap.Inv, records]; exact h.map
  repair := h.repair.congr rq records
  shots := h.shots.congr (by rw [shots])
  loaded := by rw [loaded, shots]; exact h.loaded
  unloaded none := by rw [records]; exact h.unloaded (loaded.mp none)

/-- Defects and repair work change, as many records as before standing in the map, or a reel being LOADED. -/
theorem Device.WorkInv.repaired (h : d.WorkInv) (keeps : e.RepairInv ∧ e.dm.Inv) (reels : e.reels = d.reels)
    (shots : e.gu.shots = d.gu.shots) (grows : e.dm.records.length = d.dm.records.length ∨ d.loadedReel ≠ none) :
    e.WorkInv where
  map := keeps.2
  repair := keeps.1
  shots := h.shots.congr (by rw [shots])
  loaded := by rw [Device.loadedReel_congr reels, shots]; exact h.loaded
  unloaded none := by
    rw [Device.loadedReel_congr reels] at none
    obtain same | loaded := grows
    · exact List.eq_nil_of_length_eq_zero (by rw [same, h.unloaded none, List.length_nil])
    · exact absurd none loaded

/-- The shots change, and there are some exactly when there were. -/
theorem Device.WorkInv.reshot (h : d.WorkInv) (keeps : e.gu.ShotsInv) (reels : e.reels = d.reels) (rq : e.rq = d.rq)
    (records : e.dm.records = d.dm.records) (some : e.gu.shots = [] ↔ d.gu.shots = []) : e.WorkInv where
  map := by rw [DefectMap.Inv, records]; exact h.map
  repair := h.repair.congr rq records
  shots := keeps
  loaded := by rw [Device.loadedReel_congr reels, some]; exact h.loaded
  unloaded none := by rw [records]; exact h.unloaded (Device.loadedReel_congr reels ▸ none)

theorem modify_eq_nil_iff {α : Type} (l : List α) (i : Nat) (f : α → α) : l.modify i f = [] ↔ l = [] := by
  rw [← List.length_eq_zero_iff, List.length_modify, List.length_eq_zero_iff]

theorem Device.WorkInv.modify (h : d.WorkInv) (i : Nat) {f : Shot → Shot} (hf : ∀ x, (f x).first = x.first) :
    (d.setShots (d.gu.shots.modify i f)).WorkInv :=
  h.reshot (h.shots.modify i hf) rfl rfl rfl (modify_eq_nil_iff _ _ _)

/-! ### Findings and reports -/

theorem Device.WorkInv.finding (h : d.WorkInv) (f : Finding) : (d.finding f).WorkInv := by
  refine h.repaired (h.repair.finding h.map f) (by simp) (by simp) ?_
  cases loaded : d.loadedReel with
  | none => exact .inl (by rw [Device.finding, loaded])
  | some r => exact .inr (by simp)

theorem Device.WorkInv.resolveGaps (h : d.WorkInv) (frame : Nat) : (d.resolveGaps frame).WorkInv :=
  h.repaired ⟨h.repair.resolveGaps frame, Device.resolveGaps_map h.map frame⟩ rfl rfl
    (.inl (by simp [Device.resolveGaps]))

/-! ### Requests -/

/-- No request over defects and repair work adds a record or takes one away, but ADD_DEFECT. -/
theorem Device.enqueue_length (p : Priority) (r : Defect) (d : Device) :
    (d.enqueue p r).dm.records.length = d.dm.records.length := by
  obtain ⟨-, e⟩ | ⟨-, e⟩ := d.enqueue_cases p r <;> rw [e] <;> simp [Device.appendEntry]

theorem answerQueueDefect_length (id : BitVec 16) (priority : Byte) (d : Device) :
    (answerQueueDefect id priority d).1.dm.records.length = d.dm.records.length := by
  rw [answerQueueDefect]
  obtain e | ⟨r, -, e⟩ := withDefect_cases id d _ <;> rw [e]
  simp only [refuse, refuseWith]
  repeat' split
  all_goals first | rfl | exact d.enqueue_length _ _

theorem answerWaiveDefect_length (id : BitVec 16) (d : Device) :
    (answerWaiveDefect id d).1.dm.records.length = d.dm.records.length := by
  rw [answerWaiveDefect]
  obtain e | ⟨r, -, e⟩ := withDefect_cases id d _ <;> rw [e]
  simp only [refuse, refuseWith]
  split <;> simp [Device.dropEntry]

theorem answerRequeueDefect_length (id : BitVec 16) (priority : Byte) (d : Device) :
    (answerRequeueDefect id priority d).1.dm.records.length = d.dm.records.length := by
  rw [answerRequeueDefect]
  obtain e | ⟨r, -, e⟩ := withDefect_cases id d _ <;> rw [e]
  simp only [refuse, refuseWith]
  repeat' split
  all_goals simp [Device.dropEntry, Device.appendEntry]

theorem Device.handBack_length (n : Nat) (x : Entry) (st : Station) (d : Device) :
    (d.handBack n x st).dm.records.length = d.dm.records.length := by
  simp [Device.handBack, Device.frontEntry, Device.setStation]

theorem answerSetStation_length (station enabled mask : Byte) (d : Device) :
    (answerSetStation station enabled mask d).1.dm.records.length = d.dm.records.length := by
  simp only [answerSetStation, refuse]
  repeat' split
  all_goals first | rfl | exact d.handBack_length _ _ _

theorem answerTakeWork_length (station : Byte) (d : Device) :
    (answerTakeWork station d).1.dm.records.length = d.dm.records.length := by
  simp only [answerTakeWork, refuse, refuseWith]
  repeat' split
  all_goals simp [Device.dropEntry, Device.setStation]

theorem answerReturnWork_length (station : Byte) (defect : BitVec 16) (d : Device) :
    (answerReturnWork station defect d).1.dm.records.length = d.dm.records.length := by
  rw [answerReturnWork]
  obtain e | ⟨x, -, -, e⟩ := withHeld_cases station defect false d _ <;> rw [e]
  exact d.handBack_length _ _ _

theorem answerCompleteWork_length (station : Byte) (defect : BitVec 16) (outcome : Byte) (d : Device) :
    (answerCompleteWork station defect outcome d).1.dm.records.length = d.dm.records.length := by
  rw [answerCompleteWork]
  obtain e | ⟨x, -, -, e⟩ := withHeld_cases station defect _ d _ <;> rw [e]
  dsimp only
  split <;> simp [Device.completeRepaired, Device.completeUnrepairable, Device.setStation]

theorem answerUndoRepair_length (d : Device) :
    (answerUndoRepair d).1.dm.records.length = d.dm.records.length := by
  simp only [answerUndoRepair, refuse, refuseWith]
  repeat' split
  all_goals simp [Device.frontEntry]

theorem Device.WorkInv.addDefect (h : d.WorkInv) (op : AddDefectOperands) : (answerAddDefect op d).1.WorkInv := by
  refine h.repaired (answerAddDefect_keeps h.repair h.map op) (by simp) (by simp) ?_
  cases loaded : d.loadedReel with
  | none => exact .inl (by simp [answerAddDefect, loaded, refuse])
  | some r => exact .inr (by simp)

theorem insertIdx_ne_nil {α : Type} {l : List α} (h : l ≠ []) (i : Nat) (a : α) : l.insertIdx i a ≠ [] := by
  have := List.length_pos_of_ne_nil h
  refine List.ne_nil_of_length_pos ?_
  rw [List.length_insertIdx]
  split <;> omega

theorem eraseIdx_ne_nil {α : Type} {l : List α} {i : Nat} (first : i ≠ 0) (h : i < l.length) : l.eraseIdx i ≠ [] := by
  refine List.ne_nil_of_length_pos ?_
  rw [List.length_eraseIdx, if_pos h]
  omega

theorem Device.WorkInv.defineShot (h : d.WorkInv) (ref : FrameRef) (label : BitVec 32) :
    (answerDefineShot ref label d).1.WorkInv := by
  refine h.reshot (answerDefineShot_keeps h.shots ref label) (by simp) (by simp) (by simp) ?_
  simp only [answerDefineShot, withFrame, refuse]
  split
  · split
    · rfl
    · rename_i s here
      have some : d.gu.shots ≠ [] := by
        intro none
        simp [none] at here
      repeat' split
      · rfl
      · exact modify_eq_nil_iff _ _ _
      · rfl
      · exact iff_of_false (insertIdx_ne_nil some _ _) some
  · rfl

theorem withShot_cases (index : BitVec 16) (d : Device) (f : Shot → Device × Answer) :
    (withShot index d f).1 = d ∨ ∃ s, d.gu.shots[index.toNat]? = some s ∧ withShot index d f = f s := by
  simp only [withShot, refuse]
  repeat' split
  · exact .inl rfl
  · exact .inl rfl
  · exact .inl rfl
  · exact .inr ⟨_, ‹_›, rfl⟩

theorem Device.WorkInv.deleteShot (h : d.WorkInv) (index : BitVec 16) : (answerDeleteShot index d).1.WorkInv := by
  refine h.reshot (answerDeleteShot_keeps h.shots index) (by simp) (by simp) (by simp) ?_
  rw [answerDeleteShot]
  obtain e | ⟨s, here, e⟩ := withShot_cases index d _ <;> rw [e]
  have inside := (List.getElem?_eq_some_iff.mp here).1
  simp only [refuse]
  repeat' split
  · rfl
  · rfl
  · exact iff_of_false (eraseIdx_ne_nil ‹_› inside) (List.ne_nil_of_length_pos (by omega))

theorem Device.WorkInv.lockShot (h : d.WorkInv) (index : BitVec 16) : (answerLockShot index d).1.WorkInv := by
  rw [answerLockShot]
  obtain e | ⟨s, -, e⟩ := withShot_cases index d _ <;> rw [e]
  · exact h
  · simp only [refuse]
    split
    · exact h
    · exact h.modify _ fun _ => rfl

theorem Device.WorkInv.unlockShot (h : d.WorkInv) (index : BitVec 16) : (answerUnlockShot index d).1.WorkInv := by
  rw [answerUnlockShot]
  obtain e | ⟨s, -, e⟩ := withShot_cases index d _ <;> rw [e]
  · exact h
  · simp only [refuse]
    split
    · exact h
    · exact h.modify _ fun _ => rfl

theorem Device.WorkInv.ordinary (h : d.WorkInv) (c : d.CatalogueInv) (l : HostLink) (q : Request)
    (ordinary : movesSession q = false) : (carryOut l q d).1.WorkInv := by
  have loaded := c.answer_loaded l q ordinary
  cases q with
  | restartSuite => cases ordinary
  | loadReel => cases ordinary
  | unloadReel => cases ordinary
  | addDefect op => exact h.addDefect op
  | queueDefect id p =>
    exact h.repaired (answerQueueDefect_keeps h.repair h.map id p) (by simp [carryOut]) (by simp [carryOut])
      (.inl (answerQueueDefect_length id p d))
  | waiveDefect id =>
    exact h.repaired (answerWaiveDefect_keeps h.repair h.map id) (by simp [carryOut]) (by simp [carryOut])
      (.inl (answerWaiveDefect_length id d))
  | requeueDefect id p =>
    exact h.repaired (answerRequeueDefect_keeps h.repair h.map id p) (by simp [carryOut]) (by simp [carryOut])
      (.inl (answerRequeueDefect_length id p d))
  | setStation n on m =>
    exact h.repaired (answerSetStation_keeps h.repair h.map n on m) (by simp [carryOut]) (by simp [carryOut])
      (.inl (answerSetStation_length n on m d))
  | takeWork n =>
    exact h.repaired (answerTakeWork_keeps h.repair h.map n) (by simp [carryOut]) (by simp [carryOut])
      (.inl (answerTakeWork_length n d))
  | returnWork n id =>
    exact h.repaired (answerReturnWork_keeps h.repair h.map n id) (by simp [carryOut]) (by simp [carryOut])
      (.inl (answerReturnWork_length n id d))
  | completeWork n id o =>
    exact h.repaired (answerCompleteWork_keeps h.repair h.map n id o) (by simp [carryOut]) (by simp [carryOut])
      (.inl (answerCompleteWork_length n id o d))
  | undoRepair =>
    exact h.repaired (answerUndoRepair_keeps h.repair h.map) (by simp [carryOut]) (by simp [carryOut])
      (.inl (answerUndoRepair_length d))
  | defineShot ref label => exact h.defineShot ref label
  | deleteShot i => exact h.deleteShot i
  | lockShot i => exact h.lockShot i
  | unlockShot i => exact h.unlockShot i
  | setDefectPolicy kind n =>
    refine h.congr (by simp [carryOut]) ?_ (by simp [carryOut]) loaded
    simp only [carryOut, answerSetDefectPolicy, refuse]
    repeat' split
    all_goals rfl
  | setRule op =>
    refine h.congr (by simp [carryOut]) (by simp [carryOut]) ?_ loaded
    simp only [carryOut, answerSetRule, refuse]
    repeat' split
    all_goals rfl
  | clearRule n =>
    refine h.congr (by simp [carryOut]) (by simp [carryOut]) ?_ loaded
    simp only [carryOut, answerClearRule, refuse]
    split <;> rfl
  | setFadeWindow n =>
    refine h.congr (by simp [carryOut]) (by simp [carryOut]) ?_ loaded
    simp only [carryOut, answerSetFadeWindow, refuse]
    split <;> rfl
  | clearExtremes => exact h.congr rfl rfl rfl loaded
  | _ => exact h.congr (by simp [carryOut]) (by simp [carryOut]) (by simp [carryOut]) loaded

/-! ### A load, an unload and a restart (R8, R11, R20) -/

/-- With no defect record no station is WORKING. -/
theorem Device.RepairInv.idle (h : d.RepairInv) (records : d.dm.records = []) (n : Nat) (x : Entry) :
    (d.station n).state ≠ .working x := by
  intro working
  obtain ⟨r, hr, -⟩ := (h.working n x).mp working
  rw [records] at hr
  cases hr

theorem Device.emptied_idle (rq : e.rq = d.rq.emptied) (n : Nat) (x : Entry) : (e.station n).state ≠ .working x := by
  by_cases hn : n < 8
  · rw [Device.station_eq _ hn, rq]
    simp only [Repair.emptied, Vector.getElem_map]
    cases h : d.rq.stations[n].state <;> simp [h, StationState.isWorking, StationState.held?]
  · simp [Device.station, hn]

/-- The session is over: no records, queues, working stations, undo records and shots. -/
theorem Device.WorkInv.over (records : e.dm.records = []) (rq : e.rq = d.rq.emptied) (shots : e.gu.shots = [])
    (unloaded : e.loadedReel = none) : e.WorkInv where
  map := by simp [DefectMap.Inv, records]
  repair := .empty records (by rw [rq]; rfl) (by rw [rq]; rfl) (Device.emptied_idle rq)
  shots := by simp [Grading.ShotsInv, shots]
  loaded := iff_of_true unloaded shots
  unloaded _ := records

theorem Device.WorkInv.loadReel (h : d.WorkInv) (c : d.CatalogueInv) (id : BitVec 32) (head : Option (BitVec 16)) :
    (answerLoadReel id head d).1.WorkInv := by
  simp only [answerLoadReel]
  obtain e | ⟨r, hr, e⟩ := withReel_cases id d _ <;> rw [e]
  · exact h
  · simp only [refuse]
    repeat' split
    · exact h
    · exact h
    · rename_i ready
      push Not at ready
      have idle := h.repair.idle (h.unloaded (by simpa using ready.2))
      have loaded := Device.startSession_loaded (c.find (Device.findReel_mem hr.2)) (head.getD 0).toNat
      exact {
        map := by simp [DefectMap.Inv, Device.startSession]
        repair := .empty rfl rfl rfl idle
        shots := by simp [Grading.ShotsInv, Device.startSession, Grading.loaded]
        loaded := iff_of_false loaded (by simp [Device.startSession, Grading.loaded])
        unloaded := fun none => absurd none loaded }

theorem Device.endSession_work (id : Nat) (graded : Bool) (deferred : Nat) (d : Device) :
    (d.endSession id graded deferred).dm.records = [] ∧ (d.endSession id graded deferred).rq = d.rq.emptied
    ∧ (d.endSession id graded deferred).gu.shots = [] := by
  simp only [Device.endSession]
  split <;> simp [Device.emptySession, Grading.emptied, Device.discardOrders]

theorem Device.WorkInv.endSession (c : d.CatalogueInv) {r : Reel} (loaded : d.loadedReel = some r) (graded : Bool)
    (deferred : Nat) : (d.endSession r.id graded deferred).WorkInv := by
  obtain ⟨records, rq, shots⟩ := d.endSession_work r.id graded deferred
  exact .over records rq shots
    (c.endSession_unloaded (c.find (Device.loadedReel_mem loaded)) (Device.loadedReel_state loaded) _ _)

theorem Device.WorkInv.unloadReel (h : d.WorkInv) (c : d.CatalogueInv) (force : Byte) :
    (answerUnloadReel force d).1.WorkInv := by
  have closed : d.closeOpenWork.CatalogueInv := c.congr rfl rfl
  simp only [answerUnloadReel, refuse, refuseWith]
  split
  · exact h
  · split
    · exact h
    · rename_i r loaded
      repeat' split
      · exact h
      · exact .endSession closed (r := r) loaded _ _
      · exact h
      · exact .endSession c loaded _ _

end

/-! ### Every command -/

/-- The catalogue's invariant with that of the work. -/
def Device.CatalogueWorkInv (d : Device) : Prop := d.CatalogueInv ∧ d.WorkInv

theorem workCalm : Calm Device.CatalogueWorkInv := by
  have c := shelvesCalm False
  have shelves : ∀ {d : Device}, d.CatalogueWorkInv → d.ShelvesInv False := fun h => ⟨h.1, False.elim⟩
  exact {
    tc := fun _ _ h => ⟨h.1, h.2.congr rfl rfl rfl .rfl⟩
    post := fun _ _ _ _ h => ⟨h.1, h.2.congr rfl rfl rfl .rfl⟩
    answer := fun l q d h => by
      refine ⟨(c.answer l q d (shelves h)).1, ?_⟩
      cases e : movesSession q with
      | false => exact h.2.ordinary h.1 l q e
      | true =>
        cases q with
        | restartSuite => exact .over rfl rfl rfl d.restarted_unloaded
        | loadReel id head => exact h.2.loadReel h.1 id head
        | unloadReel force => exact h.2.unloadReel h.1 force
        | _ => cases e
    count := fun _ _ h => ⟨h.1, h.2.congr rfl rfl rfl .rfl⟩
    finding := fun f d h => ⟨(c.finding f d (shelves h)).1, h.2.finding f⟩
    tracker := fun _ _ h => ⟨h.1, h.2.congr rfl rfl rfl .rfl⟩
    latch := fun _ _ h => ⟨h.1, h.2.congr rfl rfl rfl .rfl⟩
    escalate := fun n d h => ⟨(c.escalate n d (shelves h)).1,
      h.2.congr (by simp) (by simp) (by simp) (h.1.escalate_loaded n)⟩
    issue := fun _ _ _ h => ⟨h.1, h.2.congr rfl rfl rfl .rfl⟩
    retire := fun _ _ h => ⟨h.1, h.2.congr rfl rfl rfl .rfl⟩
    gaps := fun _ _ _ h => ⟨h.1, h.2.congr rfl rfl rfl .rfl⟩
    resolveGaps := fun frame _ h => ⟨h.1, h.2.resolveGaps frame⟩
    takeStatistics := fun _ _ _ h => ⟨h.1, h.2.congr rfl rfl rfl .rfl⟩
    clipped := fun i _ h => ⟨h.1, h.2.modify i fun _ => rfl⟩
    acclimatized := fun id d h => ⟨(c.acclimatized id d (shelves h)).1,
      h.2.congr (by simp) (by simp) (by simp) (h.1.acclimatized_loaded id)⟩
    time := fun _ _ h => ⟨h.1, h.2.congr rfl rfl rfl .rfl⟩
    draws := fun _ _ h => ⟨h.1, h.2.congr rfl rfl rfl .rfl⟩
    orderSent := fun _ h => ⟨h.1, h.2.congr rfl rfl rfl .rfl⟩
    port := fun _ _ _ h => ⟨h.1, h.2.congr rfl rfl rfl .rfl⟩ }

theorem Device.reset_workInv : Device.reset.CatalogueWorkInv := by
  refine ⟨(Device.reset_shelvesInv False).1, .over (d := Device.reset) rfl ?_ rfl rfl⟩
  simp [Device.reset, Repair.emptied, StationState.isWorking, StationState.held?]

end Sys2Proof.Machine
end

section
/-! The session: with no reel LOADED nothing of one stands, and with one there is a tracker (R11, R71; 4.1). -/

namespace Sys2Proof.Machine

section
variable {d e : Device}

/-! ### A LOADED reel and its tracker -/

/-- With a reel LOADED there is a tracker. -/
def Device.Tracked (d : Device) : Prop := d.loadedReel ≠ none → d.pt.isSome

theorem Device.Tracked.congr (h : d.Tracked) (loaded : e.loadedReel = none ↔ d.loadedReel = none)
    (pt : e.pt.isSome = d.pt.isSome) : e.Tracked := by
  rwa [Device.Tracked, ne_eq, loaded, pt]

theorem Device.setTracker_isSome (f : Tracker → Tracker) (d : Device) : (d.setTracker f).pt.isSome = d.pt.isSome :=
  Option.isSome_map

theorem Device.startPass_isSome (r : Reel) (p : PassRecord) (d : Device) :
    (d.startPass r p).pt.isSome = d.pt.isSome := by
  rw [Device.startPass]
  obtain e | e | ⟨_, e⟩ := Device.startLeg_cases p.first _ <;> rw [e] <;>
    simp [Device.startBackward, Device.setTracker]

theorem Device.Tracked.ordinary (h : d.Tracked) (c : d.CatalogueInv) (l : HostLink) (q : Request)
    (ordinary : movesSession q = false) : (carryOut l q d).1.Tracked := by
  refine h.congr (c.answer_loaded l q ordinary) ?_
  cases q with
  | restartSuite => cases ordinary
  | loadReel => cases ordinary
  | unloadReel => cases ordinary
  | runPass first last speed =>
    simp only [carryOut, answerRunPass, withFrame, refuse]
    repeat' split
    all_goals first | rfl | exact d.startPass_isSome _ _
  | setHead ref =>
    simp only [carryOut, answerSetHead, withFrame, refuse]
    repeat' split
    all_goals first | rfl | exact Device.setTracker_isSome _ _
  | setMark mark ref =>
    simp only [carryOut, answerSetMark, withFrame, refuse]
    repeat' split
    all_goals first | rfl | exact Device.setTracker_isSome _ _
  | _ => simp [carryOut]

theorem Device.Tracked.loadReel (h : d.Tracked) (id : BitVec 32) (head : Option (BitVec 16)) :
    (answerLoadReel id head d).1.Tracked := by
  simp only [answerLoadReel]
  obtain e | ⟨r, hr, e⟩ := withReel_cases id d _ <;> rw [e]
  · exact h
  · simp only [refuse]
    repeat' split
    · exact h
    · exact h
    · exact fun _ => rfl

theorem Device.Tracked.unloadReel (h : d.Tracked) (c : d.CatalogueInv) (force : Byte) :
    (answerUnloadReel force d).1.Tracked := by
  have ended : ∀ (e : Device) (r : Reel) graded deferred, e.CatalogueInv → e.loadedReel = some r →
      (e.endSession r.id graded deferred).Tracked := fun e r _ _ c loaded left =>
    absurd (c.endSession_unloaded (c.find (Device.loadedReel_mem loaded)) (Device.loadedReel_state loaded) _ _) left
  have closed : d.closeOpenWork.CatalogueInv := c.congr rfl rfl
  simp only [answerUnloadReel, refuse, refuseWith]
  split
  · exact h
  · split
    · exact h
    · rename_i r loaded
      repeat' split
      · exact h
      · exact ended _ r _ _ closed loaded
      · exact h
      · exact ended _ r _ _ c loaded

theorem trackedCalm : Calm fun d => d.CatalogueInv ∧ d.Tracked := by
  have c := shelvesCalm False
  have shelves : ∀ {d : Device}, d.CatalogueInv ∧ d.Tracked → d.ShelvesInv False := fun h => ⟨h.1, False.elim⟩
  exact {
    tc := fun _ _ h => h
    post := fun _ _ _ _ h => h
    answer := fun l q d h => by
      refine ⟨(c.answer l q d (shelves h)).1, ?_⟩
      cases e : movesSession q with
      | false => exact h.2.ordinary h.1 l q e
      | true =>
        cases q with
        | restartSuite => exact fun left => absurd d.restarted_unloaded left
        | loadReel id head => exact h.2.loadReel id head
        | unloadReel force => exact h.2.unloadReel h.1 force
        | _ => cases e
    count := fun _ _ h => h
    finding := fun f d h => ⟨(c.finding f d (shelves h)).1,
      h.2.congr (by rw [Device.loadedReel_congr (d.finding_frame f).1]) (by simp)⟩
    tracker := fun f d h => ⟨h.1, h.2.congr .rfl (d.setTracker_isSome f)⟩
    latch := fun _ _ h => h
    escalate := fun n d h => ⟨(c.escalate n d (shelves h)).1, h.2.congr (h.1.escalate_loaded n) (by simp)⟩
    issue := fun _ _ _ h => h
    retire := fun _ _ h => h
    gaps := fun _ _ _ h => h
    resolveGaps := fun _ _ h => h
    takeStatistics := fun _ _ _ h => h
    clipped := fun _ _ h => h
    acclimatized := fun id d h => ⟨(c.acclimatized id d (shelves h)).1,
      h.2.congr (h.1.acclimatized_loaded id) (by simp)⟩
    time := fun _ _ h => h
    draws := fun _ _ h => h
    orderSent := fun _ h => h
    port := fun _ _ _ h => h }

/-! ### Tension samples where no pass is in progress (R48, R59) -/

/-- In EMPTY, THREADING, STOPPED and FAULT a sample is stored and lowers the integrator by 1. -/
theorem Device.sample_atRest (f t : Nat)
    (h : d.tc.state = .empty ∨ d.tc.state = .threading ∨ d.tc.state = .stopped ∨ d.tc.state = .fault) :
    d.sample f t
      = { d with tc := { d.tc with feed := f, takeUp := t, integrator := d.tc.integrator - 1 } } := by
  have noLimit : ∀ e : Device, e.tc.state = d.tc.state → e.sampleLimit f t = e := by
    intro e same
    simp only [Device.sampleLimit]
    split
    · rfl
    · obtain h | h | h | h := h <;> simp only [same, h]
  simp only [Device.sample]
  rw [noLimit { d with tc.feed := f, tc.takeUp := t } rfl]
  obtain h | h | h | h := h <;> simp only [Device.sampleIntegrator, Device.sampleResume, Device.sampleSlip, h]

/-! ### No session -/

/-- Nothing of a session is in what the operation leaves alone. -/
theorem Device.NoSession.congr (h : d.NoSession) (state : e.tc.state = d.tc.state) (pt : e.pt = d.pt)
    (orders : e.cu.orders = d.cu.orders) (records : e.dm.records = d.dm.records) (shots : e.gu.shots = d.gu.shots)
    (fade : e.gu.fade = d.gu.fade) (rq : e.rq = d.rq) : e.NoSession := by
  rwa [Device.NoSession, state, pt, orders, records, shots, fade, rq]

theorem Device.NoSession.resolve (h : d.NoSession) (ref : FrameRef) : d.resolve ref = .error .wrongState := by
  obtain ⟨-, pt, -⟩ := h
  simp [Device.resolve, pt]

theorem Device.NoSession.station (h : d.NoSession) (n : Nat) (x : Entry) : (d.station n).state ≠ .working x := by
  obtain ⟨-, -, -, -, -, -, -, -, idle⟩ := h
  by_cases hn : n < 8
  · intro working
    have := idle (d.station n) (by rw [Device.station_eq d hn]; simp)
    rw [working] at this
    cases this
  · simp [Device.station, hn]

/-- A station that is not WORKING is set. -/
theorem Device.NoSession.setStation (h : d.NoSession) (n : Nat) {s : Station} (idle : s.state.isWorking = false) :
    (d.setStation n s).NoSession := by
  obtain ⟨state, pt, orders, records, shots, fade, queues, undo, stations⟩ := h
  refine ⟨state, pt, orders, records, shots, fade, queues, undo, fun x hx => ?_⟩
  obtain ⟨i, hi, rfl⟩ := List.mem_iff_getElem.mp hx
  have hi8 : i < 8 := by simpa using hi
  simp only [Device.setStation, Vector.getElem_toList, Vector.getElem_setIfInBounds]
  split
  · exact idle
  · exact stations _ (by simp)

theorem withHeld_refused (station : Byte) (defect : BitVec 16) (bad : Bool)
    (idle : ∀ n x, (d.station n).state ≠ .working x) (f : Nat → Station → Entry → Device × Answer) :
    (withHeld station defect bad d f).1 = d := by
  obtain e | ⟨x, -, working, -⟩ := withHeld_cases station defect bad d f
  · exact e
  · exact absurd working (idle _ x)

theorem Repair.select_none {q : Repair} (h : q.queues = ⟨[], [], [], []⟩) (mask : BitVec 7) : q.select mask = none := by
  simp [Repair.select, h, PerPriority.get]

theorem Device.NoSession.answerSetStation (h : d.NoSession) (station enabled mask : Byte) :
    (answerSetStation station enabled mask d).1.NoSession := by
  have idle := h.station
  simp only [Machine.answerSetStation, refuse]
  repeat' split
  · exact h
  · exact h
  · exact h
  · exact absurd ‹_› (idle _ _)
  · exact absurd ‹_› (idle _ _)
  all_goals exact h.setStation _ rfl

theorem Device.NoSession.answerTakeWork (h : d.NoSession) (station : Byte) : (answerTakeWork station d).1.NoSession := by
  obtain ⟨-, -, -, -, -, -, queues, -, -⟩ := id h
  simp only [Machine.answerTakeWork, refuse, refuseWith]
  repeat' split
  · exact h
  · exact h
  · exact h
  · exact h
  · rename_i selected
    rw [Repair.select_none queues] at selected
    cases selected

theorem Device.NoSession.ordinary (h : d.NoSession) (unloaded : d.loadedReel = none) (l : HostLink) (q : Request)
    (ordinary : movesSession q = false) : (carryOut l q d).1.NoSession := by
  obtain ⟨state, -, -, -, -, fade, -, undo, -⟩ := id h
  cases q with
  | restartSuite => cases ordinary
  | loadReel => cases ordinary
  | unloadReel => cases ordinary
  | setTransport op =>
    simp only [carryOut, answerSetTransport, refuse]
    split
    all_goals exact h
  | runPass first last speed => simpa [carryOut, answerRunPass, state, refuse] using h
  | stop => rwa [carryOut, answerStop_refused (.inl state)]
  | release => rwa [carryOut, answerRelease_refused (by simp [state])]
  | clearIncident => exact h
  | setHead ref => simpa [carryOut, answerSetHead, state, refuse] using h
  | setMark mark ref =>
    simp only [carryOut, answerSetMark, withFrame, h.resolve, refuse]
    split
    all_goals exact h
  | setCapture t x y => exact h
  | addDefect op => simpa [carryOut, answerAddDefect, unloaded, refuse] using h
  | queueDefect id p => rwa [carryOut, answerQueueDefect, withDefect_unloaded unloaded]
  | waiveDefect id => rwa [carryOut, answerWaiveDefect, withDefect_unloaded unloaded]
  | requeueDefect id p => rwa [carryOut, answerRequeueDefect, withDefect_unloaded unloaded]
  | setDefectPolicy kind n =>
    simp only [carryOut, answerSetDefectPolicy, refuse]
    repeat' split
    all_goals exact h
  | setStation n on m => exact h.answerSetStation n on m
  | takeWork n => exact h.answerTakeWork n
  | returnWork n id => rwa [carryOut, answerReturnWork, withHeld_refused _ _ _ h.station]
  | completeWork n id o => rwa [carryOut, answerCompleteWork, withHeld_refused _ _ _ h.station]
  | undoRepair => simpa [carryOut, answerUndoRepair, undo, refuse] using h
  | defineShot ref label =>
    simp only [carryOut, answerDefineShot, withFrame, h.resolve, refuse]
    exact h
  | deleteShot i => rwa [carryOut, answerDeleteShot, withShot_unloaded unloaded]
  | lockShot i => rwa [carryOut, answerLockShot, withShot_unloaded unloaded]
  | unlockShot i => rwa [carryOut, answerUnlockShot, withShot_unloaded unloaded]
  | setRule op =>
    simp only [carryOut, answerSetRule, refuse]
    repeat' split
    all_goals exact h
  | clearRule n =>
    simp only [carryOut, answerClearRule, refuse]
    split
    all_goals exact h
  | setFadeWindow n =>
    simp only [carryOut, answerSetFadeWindow, refuse]
    split
    · exact h
    · obtain ⟨state, pt, orders, records, shots, fade, rest⟩ := h
      refine ⟨state, pt, orders, records, shots, ?_, rest⟩
      rw [fade]
      rfl
  | clearExtremes =>
    obtain ⟨state, pt, orders, records, shots, fade, rest⟩ := h
    refine ⟨state, pt, orders, records, shots, ?_, rest⟩
    show d.gu.fade.map (fun f => { f with extremes := none }) = _
    rw [fade]
    rfl
  | _ =>
    exact h.congr (by simp [carryOut]) (by simp [carryOut]) (by simp [carryOut]) (by simp [carryOut])
      (by simp [carryOut]) (by simp [carryOut]) (by simp [carryOut])

/-- With no reel LOADED nothing of a session stands. -/
def Device.Vacant (d : Device) : Prop := d.loadedReel = none → d.NoSession

theorem Device.Vacant.loadReel (h : d.Vacant) (c : d.CatalogueInv) (id : BitVec 32) (head : Option (BitVec 16)) :
    (answerLoadReel id head d).1.Vacant := by
  simp only [answerLoadReel]
  obtain e | ⟨r, hr, e⟩ := withReel_cases id d _ <;> rw [e]
  · exact h
  · simp only [refuse]
    repeat' split
    · exact h
    · exact h
    · exact fun none => absurd none (Device.startSession_loaded (c.find (Device.findReel_mem hr.2)) _)

theorem Repair.emptied_idle (q : Repair) : ∀ st ∈ q.emptied.stations.toList, st.state.isWorking = false := by
  intro st hst
  simp only [Repair.emptied, Vector.toList_map, List.mem_map] at hst
  obtain ⟨x, -, rfl⟩ := hst
  split
  · rfl
  · simpa using ‹¬ x.state.isWorking = true›

theorem Device.endSession_noSession (empty : d.tc.state = .empty) (id : Nat) (graded : Bool) (deferred : Nat) :
    (d.endSession id graded deferred).NoSession := by
  have state : (d.endSession id graded deferred).tc.state = .empty := by
    simp only [Device.endSession]
    split <;> simp [Device.emptySession, Device.discardOrders, empty]
  have rest : (d.endSession id graded deferred).pt = none ∧ (d.endSession id graded deferred).cu.orders = []
      ∧ (d.endSession id graded deferred).gu.fade = Grading.fadeCleared := by
    simp only [Device.endSession]
    split <;> simp [Device.emptySession, Device.discardOrders, Grading.emptied]
  obtain ⟨records, rq, shots⟩ := d.endSession_work id graded deferred
  exact ⟨state, rest.1, rest.2.1, records, shots, rest.2.2, by rw [rq]; rfl, by rw [rq]; rfl,
    rq ▸ Repair.emptied_idle _⟩

theorem Device.Vacant.unloadReel (h : d.Vacant) (force : Byte) : (answerUnloadReel force d).1.Vacant := by
  simp only [answerUnloadReel, refuse, refuseWith]
  split
  · exact h
  · split
    · exact h
    · split
      · exact h
      · rename_i state
        have empty := not_not.mp state
        repeat' split
        · exact fun _ => Device.endSession_noSession (d := d.closeOpenWork) empty _ _ _
        · exact h
        · exact fun _ => Device.endSession_noSession empty _ _ _

theorem Device.restarted_noSession (d : Device) : d.restarted.NoSession :=
  ⟨rfl, rfl, rfl, rfl, rfl, rfl, rfl, rfl, Repair.emptied_idle _⟩

/-! ### The events, with no session -/

theorem Device.NoSession.slipExpires (h : d.NoSession) (t : d.tc.Inv) : d.slipExpires = d := by
  have rest := t.atRest (by rw [h.1]; rfl)
  simp [Device.slipExpires, rest.watch]

theorem Device.NoSession.filmFalls (h : d.NoSession) : d.filmFalls.tc.state = .empty := by
  obtain ⟨state, -⟩ := h
  simp only [Device.filmFalls]
  split
  · split
    · exact state
    all_goals simp_all
  · exact state

theorem Device.NoSession.filmRises (h : d.NoSession) (unloaded : d.loadedReel = none) :
    d.filmRises.tc.state = .empty := by
  obtain ⟨state, -⟩ := h
  simp only [Device.filmRises]
  split
  · exact state
  · split
    · split
      · rename_i loaded
        cases unloaded.symm.trans loaded
      · exact state
    all_goals simp_all

theorem Device.NoSession.report (h : d.NoSession) (r : FrameReport) : (d.report r).NoSession := by
  obtain ⟨-, -, orders, -⟩ := id h
  simp only [Device.report, orders, List.find?_nil]
  exact h

theorem Device.NoSession.edge (h : d.NoSession) (p : BitVec 32) : d.edge p = d := by
  obtain ⟨-, pt, -⟩ := h
  simp only [Device.edge, pt]

theorem Device.NoSession.reportExpires (h : d.NoSession) (tag : Byte) : d.reportExpires tag = d := by
  obtain ⟨-, -, orders, -⟩ := h
  simp only [Device.reportExpires, orders, List.find?_nil]

/-! ### An edge leaves it so whether a reel is LOADED -/

theorem loadedSteady (b : Prop) : Steady fun d => d.CatalogueInv ∧ (d.loadedReel = none ↔ b) := by
  have k := loadedLaw b
  exact {
    post := fun _ _ _ _ h => h
    count := fun _ _ h => h
    finding := fun _ _ h => k.same h (by simp) (by simp) (by simp)
    latch := fun _ _ h => h
    tracker := fun _ _ h => h
    escalate := fun n _ h => k.escalate h n
    askEnd := fun _ _ h => k.same h (by simp) (by simp) (by simp)
    enterFault := fun _ _ h => k.same h (by simp) (by simp) (by simp)
    boundary := fun _ _ h => k.same h (by simp) (by simp) (by simp)
    issue := fun _ _ _ h => h
    retire := fun _ _ h => h
    gaps := fun _ _ _ h => h
    resolveGaps := fun _ _ h => h
    takeStatistics := fun _ _ _ h => h
    clipped := fun _ _ h => h }

/-- What leaves the reels leaves it vacant, where it leaves nothing of a session. -/
theorem Device.Vacant.of_reels (h : d.Vacant) (reels : e.reels = d.reels) (keeps : d.NoSession → e.NoSession) :
    e.Vacant := fun none => keeps (h (Device.loadedReel_congr reels ▸ none))

end

/-! ### Every command -/

/-- The catalogue's and TC's invariants, with an empty transport and nothing else of a session where no reel is
LOADED. -/
def Device.VacancyInv (d : Device) : Prop := d.CatalogueInv ∧ d.tc.Inv ∧ d.Vacant

theorem Device.VacancyInv.retime {d : Device} (h : d.VacancyInv) (time : TimeBase) (draws : Nat) :
    ({ d with time := time, freeDraws := draws } : Device).VacancyInv :=
  ⟨h.1, h.2.1, h.2.2.of_reels rfl fun n => n.congr rfl rfl rfl rfl rfl rfl rfl⟩

theorem vacancyKept : Kept Device.VacancyInv := by
  have c := (shelvesCalm False).kept
  have t := transportKept
  have s : ∀ {d : Device}, d.VacancyInv → d.ShelvesInv False := fun h => ⟨h.1, False.elim⟩
  exact {
    answer := fun l q d h => by
      refine ⟨(c.answer l q d (s h)).1, t.answer l q d h.2.1, ?_⟩
      cases e : movesSession q with
      | false => exact fun none =>
          have before := (h.1.answer_loaded l q e).mp none
          (h.2.2 before).ordinary before l q e
      | true =>
        cases q with
        | restartSuite => exact fun _ => d.restarted_noSession
        | loadReel id head => exact h.2.2.loadReel h.1 id head
        | unloadReel force => exact h.2.2.unloadReel force
        | _ => cases e
    count := fun _ _ h => h
    micro := fun _ h => h.retime _ _
    sample := fun f u d h => ⟨(c.sample f u d (s h)).1, t.sample f u d h.2.1, h.2.2.of_reels (by simp) fun n => by
      rw [Device.sample_atRest f u (.inl n.1)]
      exact n⟩
    filmRises := fun d h => ⟨(c.filmRises d (s h)).1, t.filmRises d h.2.1, fun none => by
      have before := (Device.loadedReel_congr d.filmRises_frame.1).symm.trans none
      have n := h.2.2 before
      exact n.congr ((n.filmRises before).trans n.1.symm) (by simp) (by simp) (by simp) (by simp) (by simp) (by simp)⟩
    filmFalls := fun d h => ⟨(c.filmFalls d (s h)).1, t.filmFalls d h.2.1, h.2.2.of_reels (by simp) fun n =>
      n.congr (n.filmFalls.trans n.1.symm) (by simp) (by simp) (by simp) (by simp) (by simp) (by simp)⟩
    edge := fun p d h => ⟨(c.edge p d (s h)).1, t.edge p d h.2.1, fun none => by
      have before := ((loadedSteady (d.loadedReel = .none)).edge p ⟨h.1, .rfl⟩).2.mp none
      rw [(h.2.2 before).edge]
      exact h.2.2 before⟩
    acclimatized := fun id d h => ⟨(c.acclimatized id d (s h)).1, t.acclimatized id d h.2.1, fun none => by
      have n := h.2.2 ((h.1.acclimatized_loaded id).mp none)
      exact n.congr (by simp) (by simp) (by simp) (by simp) (by simp) (by simp) (by simp)⟩
    reportExpires := fun tag d h => ⟨(c.reportExpires tag d (s h)).1, t.reportExpires tag d h.2.1,
      h.2.2.of_reels (by simp) fun n => by rwa [n.reportExpires]⟩
    threadingExpires := fun d h => ⟨(c.threadingExpires d (s h)).1, t.threadingExpires d h.2.1,
      h.2.2.of_reels (by simp) fun n => by
        rw [Device.threadingExpires, if_neg (by simp [n.1])]
        exact n⟩
    relaxExpires := fun d h => ⟨(c.relaxExpires d (s h)).1, t.relaxExpires d h.2.1,
      h.2.2.of_reels (by simp) fun n => by
        rw [Device.relaxExpires, if_neg (by simp [n.1])]
        exact n⟩
    strainExpires := fun d h => ⟨(c.strainExpires d (s h)).1, t.strainExpires d h.2.1,
      h.2.2.of_reels (by simp) fun n => by
        rw [Device.strainExpires, if_neg (by simp [n.1])]
        exact n⟩
    slipExpires := fun d h => ⟨(c.slipExpires d (s h)).1, t.slipExpires d h.2.1,
      h.2.2.of_reels (by simp) fun n => by rwa [n.slipExpires h.2.1]⟩
    orderSent := fun _ h => h
    report := fun r d h => ⟨(c.report r d (s h)).1, t.report r d h.2.1, h.2.2.of_reels (by simp) fun n => n.report r⟩
    port := fun _ _ _ h => h }

theorem Device.reset_noSession : Device.reset.NoSession := by
  refine ⟨rfl, rfl, rfl, rfl, rfl, rfl, rfl, rfl, fun st hst => ?_⟩
  simp only [Device.reset, Vector.toList_replicate, List.mem_replicate] at hst
  rw [hst.2]
  rfl

theorem exec_vacancy {c : Instr} {s t : State} (he : exec c s = .next t) (h : s.dev.VacancyInv) : t.dev.VacancyInv := by
  refine vacancyKept.exec c s t ?_ ?_ he h
  · intro _ d h
    rw [Device.milli]
    split
    · exact h.retime _ _
    · exact h.retime _ _
  · intro _ _ _ film _ _
    exact ⟨(Device.reset_shelvesInv False).1, Transport.reset_inv film, fun _ => Device.reset_noSession⟩

/-- Settles O58. -/
theorem sessionInvariantIsKept : Obligations.SessionInvariantIsKept := by
  intro c s t catalogue he
  refine ⟨fun transport h => ⟨?_, ?_⟩, fun h => ?_⟩
  · exact (exec_vacancy he ⟨catalogue, transport, h.1⟩).2.2
  · have kept := trackedCalm.exec ⟨(Device.reset_shelvesInv False).1, fun left => absurd rfl left⟩ he
      ⟨catalogue, fun left => h.2 (Option.isSome_iff_ne_none.mpr left)⟩
    exact fun loaded => kept.2 (Option.isSome_iff_ne_none.mp loaded)
  · exact (workCalm.exec Device.reset_workInv he ⟨catalogue, h⟩).2

end Sys2Proof.Machine
end

section
/-! The machine: the front command is carried out, no command stops the part, and what a full reset gives. -/

namespace Sys2Proof.Machine

/-- Settles O1. -/
theorem stepRunsFrontCommand : Obligations.StepRunsFrontCommand := fun _ _ _ => rfl

/-! ### The waiting commands stay -/

section
variable (s : State)

@[simp] theorem State.dispatch_pending (q : HostRequest) : (s.dispatch q).pending = s.pending := by
  obtain ⟨d, replies, e, -⟩ := s.dispatch_cases q
  rw [e]

@[simp] theorem State.serve_pending : s.serve.pending = s.pending :=
  State.serve_induct (P := fun t => t.pending = s.pending) (fun _ _ _ _ _ h => (State.dispatch_pending _ _).trans h) s rfl

@[simp] theorem State.offer_pending (q : HostRequest) : (s.offer q).pending = s.pending := by
  obtain ⟨-, e⟩ | ⟨-, e⟩ := s.offer_cases q <;> rw [e]

@[simp] theorem State.submit_pending (via : Envelope) (kind : Byte) (body : List Byte) :
    (s.submit via kind body).pending = s.pending := by
  simp [State.submit]

@[simp] theorem State.hostChar_pending (c : LineChar) : (s.hostChar c).pending = s.pending := by
  simp only [State.hostChar, State.hostData]
  repeat' split
  all_goals simp

@[simp] theorem State.hostChars_pending (chars : List LineChar) : (s.hostChars chars).pending = s.pending := by
  induction chars generalizing s with
  | nil => rfl
  | cons c chars ih => exact (ih _).trans (s.hostChar_pending c)

@[simp] theorem State.hostDiscard_pending (k : Counter) : (s.hostDiscard k).pending = s.pending := by
  rw [State.hostDiscard]
  split <;> rfl

@[simp] theorem State.hostCharError_pending : s.hostCharError.pending = s.pending := by
  rw [State.hostCharError]
  split
  · exact s.hostDiscard_pending _
  · rfl

@[simp] theorem State.startReply_pending : s.startReply.pending = s.pending := by
  simp only [State.startReply]
  repeat' split
  all_goals rfl

@[simp] theorem State.completeReply_pending : s.completeReply.pending = s.pending := by
  rw [State.completeReply]
  split <;> simp

@[simp] theorem State.collide_pending (n : Nat) : (s.collide n).pending = s.pending := by
  rw [State.collide]
  repeat' split
  all_goals simp

end

/-- Settles O2: a command of the catalogue goes through the host link, and an event has its own effect. -/
theorem everyCommandAnswersNextState : Obligations.EveryCommandAnswersNextState := by
  intro c s
  cases c
  case requestFrame chars => exact ⟨_, rfl, s.hostChars_pending chars⟩
  case hostCharacterError => exact ⟨_, rfl, s.hostCharError_pending⟩
  case hostGapTimeout => exact ⟨_, rfl, s.hostDiscard_pending _⟩
  case hostBreak => exact ⟨_, rfl, s.hostCharError_pending⟩
  case replyStart => exact ⟨_, rfl, s.startReply_pending⟩
  case replyComplete => exact ⟨_, rfl, s.completeReply_pending⟩
  case collision n => exact ⟨_, rfl, s.collide_pending n⟩
  case addressCharacterOfOtherValue => exact ⟨_, rfl, s.hostChar_pending _⟩
  case fullReset | runCounterTick | suiteClockTick | tensionSample | filmPresentRises | filmPresentFalls |
    perforationEdge | acclimatizationExpiry | reportDeadlineExpiry | threadingTimerExpiry | relaxTimerExpiry |
    strainWarningPersistenceExpiry | slipPersistenceExpiry | frameReport | pipelineCharacterError |
    pipelineGapTimeout | pipelineBreak | captureOrderSent | hostLineReturnsHigh | pipelineLineReturnsHigh |
    pipelineAddressOfOtherValue =>
    exact ⟨_, rfl, rfl⟩
  all_goals exact ⟨_, rfl, s.submit_pending _ _ _⟩

/-! ### The state after a full reset -/

/-- The reset's slots, stations and rules, and the zones its masks allow (R37, R139, R145). -/
theorem Device.reset_slot {n : Nat} (h : n < 256) : Device.reset.slot n = .free := by
  simp [Device.slot, Device.reset, h]

theorem Device.reset_station {n : Nat} (h : n < 8) : Device.reset.station n = { state := .offline, mask := 0 } := by
  simp [Device.station, Device.reset, h]

theorem Device.reset_rules {r : Rule} (h : r ∈ Device.reset.gu.rules.toList) : r = Rule.cleared := by
  simp only [Device.reset, Vector.toList_replicate, List.mem_replicate] at h
  exact h.2

theorem Device.reset_allowed_old (k : DecayClass) (old : k = .a ∨ k = .b) (z : Zone) :
    Device.reset.allowed k z = true ↔ z = .cold ∨ z = .frozen := by
  obtain rfl | rfl := old <;> cases z <;> decide

theorem Device.reset_allowed_c (z : Zone) : Device.reset.allowed .c z = true ↔ z = .frozen ∨ z = .isolation := by
  cases z <;> decide

theorem Device.reset_allowed_d (z : Zone) : Device.reset.allowed .d z = true ↔ z = .isolation := by
  cases z <;> decide

/-- The mask holds every kind (R164). -/
theorem Device.reset_mask (k : NoticeKind) : Device.reset.nl.mask.getLsbD k.code = true := by
  cases k <;> decide

theorem Device.reset_occupancy : Device.reset.rq.occupancy = 0 := by
  simp [Device.reset, Repair.occupancy, StationState.isWorking, StationState.held?]

/-- The values of a full reset stand whatever the input lines say and however many free values are drawn. -/
theorem Device.reset_values (film low : Bool) (draws : Nat) :
    ({ Device.reset with tc.filmPresent := film, pipe.lineLow := low, freeDraws := draws } : Device).FullResetValues := by
  refine ⟨rfl, fun n hn => Device.reset_slot hn, rfl, rfl,
    Device.reset_allowed_old .a (.inl rfl), Device.reset_allowed_old .b (.inr rfl), Device.reset_allowed_c,
    Device.reset_allowed_d, rfl, rfl, rfl, rfl, rfl, rfl, rfl, rfl, rfl, rfl, rfl, rfl, rfl, rfl, rfl, rfl, rfl, rfl, rfl,
    rfl, rfl, rfl, rfl, rfl, rfl, rfl, rfl, rfl, rfl, rfl, rfl, rfl,
    rfl, rfl, rfl, rfl, rfl, rfl, Device.reset_occupancy, rfl, fun n hn => Device.reset_station hn, rfl, rfl, rfl,
    ?rules, rfl, rfl, Device.reset_mask, rfl, Counters.zero_all_zero, Counters.zero_all_zero, rfl, rfl, rfl, rfl⟩
  case rules =>
    intro r hr
    rw [Device.reset_rules hr]
    decide

theorem HostLink.reset_values (address : BitVec 3) (rate : BitVec 2) (low : Bool) :
    ({ HostLink.reset address rate with lineLow := low } : HostLink).FullResetValues :=
  ⟨rfl, rfl, rfl, rfl, rfl, rfl⟩

/-- Settles O3. -/
theorem fullResetGivesEveryValue : Obligations.FullResetGivesEveryValue := fun address rate s =>
  ⟨s.fullReset address rate, rfl, Device.reset_values _ _ _, HostLink.reset_values _ _ _, rfl, rfl⟩

/-- Settles O4: the values of the reset, and each invariant of the state it gives. -/
theorem resetStateHoldsFullResetValues : Obligations.ResetStateHoldsFullResetValues := by
  refine ⟨Device.reset_values false false 0, HostLink.reset_values 0 0 false, rfl, State.fullReset_linkInv 0 0 State.reset,
    ⟨by decide, by decide⟩,
    fun n hn => by rw [Counters.zero_all_zero n hn]; exact Nat.zero_le _, (Device.reset_shelvesInv False).1, ?passes,
    (Device.reset_shelvesInv True).2 trivial,
    ⟨fun _ => Device.reset_noSession, fun h => nomatch h⟩, Device.reset_workInv.2, ⟨by decide, by decide, by decide⟩,
    ⟨fun _ => rfl, trivial⟩, Transport.reset_inv false⟩
  case passes => exact fun r hr => nomatch hr

/-! ### The attention mask (R162, R163) -/

theorem NoticeKind.code_lt (k : NoticeKind) : k.code < 15 := by cases k <;> decide

/-- No kind's bit is lost to the sixteenth. -/
theorem attention_setWidth (l : NoticeList) (mask : BitVec 16) :
    ({ l with mask := mask.setWidth 15 } : NoticeList).attention = l.notices.any fun n => mask.getLsbD n.kind.code := by
  simp [NoticeList.attention, NoticeKind.code_lt]

/-- Settles O50. -/
theorem setAttentionMaskMovesTheLine : Obligations.SetAttentionMaskMovesTheLine := by
  refine ⟨fun mask s => ⟨fun sixteenth => ?refused, fun known => ⟨?stored, attention_setWidth s.dev.nl mask⟩⟩,
    Device.reset_mask⟩
  case refused =>
    exact State.gives_of (.setAttentionMask mask) (fun _ => rfl) rfl
      (by simp [carryOut, answerSetAttentionMask, sixteenth, refuse])
  case stored =>
    refine State.gives_of (.setAttentionMask mask) (fun _ => rfl) rfl ?_
    rw [carryOut, answerSetAttentionMask, if_neg (by rw [known]; exact Bool.false_ne_true)]
    simp only [Device.attentionLine, attention_setWidth, flag]

end Sys2Proof.Machine
end

section
/-! The host link's requests and frames: dispatch, the FIFO, frames read character by character, and line errors
(R170 to R175). -/

namespace Sys2Proof.Machine

/-! ### Requests (R173 to R175) -/

/-- Settles O5. -/
theorem addressedRequestIsCarriedOutAndAnswered : Obligations.AddressedRequestIsCarriedOutAndAnswered := by
  intro c tag q s request ready
  rw [exec_request request, State.request_ready tag q s ready]

theorem broadcasts_iff (k : Kind) : broadcasts k = true ↔ k = .adjustClock ∨ k = .trimClock ∨ k = .restartSuite := by
  rw [broadcasts, decide_eq_true_iff]

/-- A broadcast request that is taken has its effect, or is dropped (R175). -/
theorem State.dispatch_toAll (tag : Byte) (q : Request) (s : State) :
    s.dispatch { tag, kind := q.kind.code, body := q.body, broadcast := true }
      = if q.kind = .adjustClock ∨ q.kind = .trimClock ∨ q.kind = .restartSuite then
          { s with dev := (carryOut s.link q s.dev).1 }
        else s := by
  split
  · exact s.dispatch_broadcast tag q ((broadcasts_iff _).mpr ‹_›)
  · exact s.dispatch_dropped tag q (Bool.eq_false_iff.mpr fun h => ‹¬ _› ((broadcasts_iff _).mp h))

/-- Settles O6. -/
theorem broadcastRequestIsNotAnswered : Obligations.BroadcastRequestIsNotAnswered := by
  refine ⟨fun c tag q s request ready => ?_, fun tag kind body s unknown ready => ?_⟩
  · rw [exec_request request, State.request, s.submit_ready _ _ _ ready, State.dispatch_toAll]
  · show Host.Outcome.next (s.submit ⟨tag, true⟩ kind body) = _
    rw [s.submit_ready _ _ _ ready, s.dispatch_unknown _ unknown]
    rfl

/-! ### Frames, character by character (R171, R172, R184) -/

/-- A port takes the data characters of a frame one by one: it holds a part, and makes of the frame what it makes of
the characters that end it. -/
theorem foldl_frame {σ : Type} {step : σ → LineChar → σ} {held made : List Byte → σ}
    (takes : ∀ taken x, step (held taken) ⟨false, x⟩ = made (taken ++ [x]))
    (holds : ∀ taken, frameProgress taken = .more → made taken = held taken) :
    ∀ (data taken : List Byte), data ≠ [] →
      (∀ n, 0 < n → n < data.length → frameProgress (taken ++ data.take n) = .more) →
      (data.map (LineChar.mk false)).foldl step (held taken) = made (taken ++ data)
  | [x], taken, _, _ => takes taken x
  | x :: y :: rest, taken, _, part => by
    have first : made (taken ++ [x]) = held (taken ++ [x]) := holds _ (part 1 (by simp) (by simp))
    rw [List.map_cons, List.foldl_cons, takes, first, foldl_frame takes holds (y :: rest) (taken ++ [x]) (by simp)]
    · simp
    · intro n _ short
      simpa using part (n + 1) (by simp) (by simpa using short)

/-- The parts of a frame that its length character makes whole are in progress. -/
theorem frame_part (tag kind : Byte) {body : List Byte} (short : body.length ≤ 240) (x y : Byte) (n : Nat)
    (part : n < (requestData tag kind body ++ [x, y]).length) :
    frameProgress ((requestData tag kind body ++ [x, y]).take n) = .more :=
  frameProgress_part tag kind body short n (by simp [requestData] at part; omega) _ rfl

section
variable {s : State}

/-- What a data character makes of a frame does not depend on what the parser held. -/
theorem State.hostData_reparse (s : State) (p : Parser) (broadcast : Bool) (taken : List Byte) :
    ({ s with link.parser := p } : State).hostData broadcast taken = s.hostData broadcast taken := by
  rfl

theorem State.hostData_more (broadcast : Bool) {taken : List Byte} (more : frameProgress taken = .more) :
    s.hostData broadcast taken = { s with link.parser := .receive broadcast taken } := by
  simp only [State.hostData, more]

/-- With the parser in RECEIVE, data characters of which every part is in progress are taken as one. -/
theorem State.hostChars_data (on : s.link.listening = true) (broadcast : Bool) {data : List Byte} (some' : data ≠ [])
    (part : ∀ n, 0 < n → n < data.length → frameProgress (data.take n) = .more) :
    ({ s with link.parser := .receive broadcast [] } : State).hostChars (data.map (LineChar.mk false))
      = s.hostData broadcast data := by
  refine foldl_frame (held := fun taken => { s with link.parser := .receive broadcast taken })
    (made := s.hostData broadcast) (fun taken x => ?_) (fun _ => State.hostData_more broadcast) data [] some' part
  have on' : ({ s.link with parser := .receive broadcast taken } : HostLink).listening = true := on
  rw [State.hostChar, if_pos on', if_neg Bool.false_ne_true]
  exact s.hostData_reparse _ _ _

theorem State.hostChar_address (on : s.link.listening = true) (a : Byte) :
    s.hostChar ⟨true, a⟩ = { s with link.parser := s.link.addressed a } := by
  rw [State.hostChar, if_pos on, if_pos rfl]

theorem HostLink.addressed_unit (h : HostLink) : h.addressed (h.unitAddress.setWidth 8) = .receive false [] := by
  rw [HostLink.addressed, if_pos rfl]

theorem HostLink.addressed_other {h : HostLink} {a : Byte} (other : a ≠ h.unitAddress.setWidth 8) (unit : a ≠ 15) :
    h.addressed a = .hunt := by
  rw [HostLink.addressed, if_neg other, if_neg unit]

/-- A run of characters that begins a frame for this unit: the data characters are taken as one. -/
theorem State.hostChars_addressed (on : s.link.listening = true) {data : List Byte} (some' : data ≠ [])
    (part : ∀ n, 0 < n → n < data.length → frameProgress (data.take n) = .more) :
    s.hostChars (⟨true, s.link.unitAddress.setWidth 8⟩ :: data.map (LineChar.mk false)) = s.hostData false data := by
  have begun := State.hostChar_address on (s.link.unitAddress.setWidth 8)
  rw [HostLink.addressed_unit] at begun
  rw [State.hostChars, List.foldl_cons, begun]
  exact State.hostChars_data on false some' part

/-- A frame for this unit, with any two characters in the check's place. -/
theorem State.hostChars_frame (on : s.link.listening = true) (tag kind x y : Byte) {body : List Byte}
    (short : body.length ≤ 240) :
    s.hostChars (⟨true, s.link.unitAddress.setWidth 8⟩ :: (requestData tag kind body ++ [x, y]).map (LineChar.mk false))
      = s.hostData false (requestData tag kind body ++ [x, y]) :=
  State.hostChars_addressed on (by simp) fun n _ => frame_part tag kind short x y n

/-- A whole frame with its check hands HL the request it carries (R172, R173). -/
theorem State.hostChars_request (on : s.link.listening = true) (tag kind : Byte) {body : List Byte}
    (short : body.length ≤ 240) :
    s.hostChars (frameChars (s.link.unitAddress.setWidth 8) (requestData tag kind body))
      = ({ s with link.parser := .hunt, dev := s.dev.count .framesAccepted } : State).submit (addressed tag) kind body := by
  refine (State.hostChars_frame on tag kind _ _ short).trans ?_
  have whole := frameProgress_whole tag kind body short
  simp only [be16] at whole
  simp only [State.hostData, whole]
  rfl

/-- With the link ready, the request of a whole frame is dispatched at once. -/
theorem State.hostChars_dispatch (on : s.link.listening = true) (ready : s.Ready) (tag kind : Byte) {body : List Byte}
    (short : body.length ≤ 240) :
    s.hostChars (frameChars (s.link.unitAddress.setWidth 8) (requestData tag kind body))
      = ({ s with link.parser := .hunt, dev := s.dev.count .framesAccepted } : State).dispatch
          { tag, kind, body, broadcast := false } :=
  (State.hostChars_request on tag kind short).trans (State.submit_ready _ _ _ _ ready)

/-- In HUNT data characters pass. -/
theorem State.hostChars_hunt (hunting : s.link.parser = .hunt) (data : List Byte) :
    s.hostChars (data.map (LineChar.mk false)) = s := by
  induction data with
  | nil => rfl
  | cons x data ih =>
    have passed : s.hostChar ⟨false, x⟩ = s := by
      simp only [State.hostChar, hunting]
      split <;> rfl
    rw [State.hostChars, List.map_cons, List.foldl_cons, passed]
    exact ih

/-- No character is taken while a break holds the line low. -/
theorem State.hostChars_lineLow (low : s.link.lineLow = true) (chars : List LineChar) : s.hostChars chars = s := by
  induction chars with
  | nil => rfl
  | cons c chars ih =>
    have deaf : s.hostChar c = s := by simp [State.hostChar, HostLink.listening, low]
    rw [State.hostChars, List.foldl_cons, deaf]
    exact ih

end

/-- Settles O7. -/
theorem requestsWaitAndUnknownOnesAreAnswered : Obligations.RequestsWaitAndUnknownOnesAreAnswered := by
  refine ⟨fun c via q s request full _ => ?_, fun tag kind body s unknown ready => ?_,
    fun tag k body s noLength short ready on => ?_⟩
  · rw [exec_request request, State.request, State.submit]
    obtain ⟨room, e⟩ | ⟨full', e⟩ :=
      s.offer_cases { tag := via.tag, kind := q.kind.code, body := q.body, broadcast := via.broadcast }
    · rw [e, if_pos room]
      exact congrArg _ (State.serve_idle _ (.inr full))
    · rw [e, if_neg (Nat.not_lt.mpr full')]
      exact congrArg _ (State.serve_idle _ (.inr full))
  · show Host.Outcome.next (s.submit (addressed tag) kind body) = _
    rw [s.submit_ready _ _ _ ready, s.dispatch_unknown _ unknown]
    rfl
  · show Host.Outcome.next (s.hostChars _) = _
    rw [State.hostChars_dispatch on ready tag k.code short, State.dispatch_badLength _ _ _ _ _ noLength]
    rfl

/-- Settles O8: the frame is taken whole, and its body is read back as the request. -/
theorem requestFrameIsReadBack : Obligations.RequestFrameIsReadBack := by
  intro tag q s ready on
  show Host.Outcome.next (s.hostChars _) = _
  rw [State.hostChars_dispatch on ready tag q.kind.code ((body_length q).trans (by omega)), State.dispatch_addressed]
  rfl

/-! ### Bad frames and line errors (R170 to R172) -/

section
variable {s : State}

theorem State.hostDiscard_receive {broadcast : Bool} {taken : List Byte}
    (progress : s.link.parser = .receive broadcast taken) (k : Counter) :
    s.hostDiscard k = { s with dev := s.dev.count k, link.parser := .hunt } := by
  simp only [State.hostDiscard, progress]

theorem State.hostDiscard_hunt (hunting : s.link.parser = .hunt) (k : Counter) : s.hostDiscard k = s := by
  simp only [State.hostDiscard, hunting]

theorem State.hostCharError_on (on : s.link.listening = true) : s.hostCharError = s.hostDiscard .characterErrors := by
  rw [State.hostCharError, if_pos on]

theorem State.lineHigh_of_listening (on : s.link.listening = true) : s.link.lineLow = false := by
  simp only [HostLink.listening, Bool.and_eq_true, Bool.not_eq_true'] at on
  exact on.1

/-- A frame for another unit is passed over. -/
theorem State.hostChars_other (on : s.link.listening = true) {a : Byte} (other : a ≠ s.link.unitAddress.setWidth 8)
    (unit : a ≠ 15) (data : List Byte) : s.hostChars (frameChars a data) = { s with link.parser := .hunt } := by
  have begun := State.hostChar_address on a
  rw [HostLink.addressed_other other unit] at begun
  rw [State.hostChars, frameChars, List.foldl_cons, begun]
  exact State.hostChars_hunt rfl _

end

/-- Settles O9. -/
theorem badFramesAndLineErrorsAreDiscarded : Obligations.BadFramesAndLineErrorsAreDiscarded := by
  refine ⟨⟨fun tag kind x y body s short wrong on => ?_, fun tag kind length s long on => ?_,
    fun a data s other unit on => congrArg Host.Outcome.next (State.hostChars_other on other unit data)⟩,
    fun s on => ⟨fun broadcast taken progress => ⟨?_, ?_, ?_⟩, fun hunting => ⟨?_, ?_, ?_⟩,
      fun value other unit => ?_, fun chars => ?_, ?_⟩⟩
  · show Host.Outcome.next (s.hostChars _) = _
    have mismatch := frameProgress_check tag kind body short x y
    rw [if_neg wrong] at mismatch
    rw [State.hostChars_frame on tag kind x y short]
    simp only [State.hostData, mismatch]
  · show Host.Outcome.next (s.hostChars _) = _
    have tooLong : frameProgress [tag, kind, length] = .tooLong := if_pos long
    have taken := State.hostChars_addressed on (data := [tag, kind, length]) (by simp) fun
      | 1, _, _ => rfl
      | 2, _, _ => rfl
    simp only [State.hostData, tooLong] at taken
    exact congrArg Host.Outcome.next taken
  · exact congrArg Host.Outcome.next ((State.hostCharError_on on).trans (State.hostDiscard_receive progress _))
  · exact congrArg Host.Outcome.next (State.hostDiscard_receive progress _)
  · show Host.Outcome.next s.hostBreak = _
    simp only [State.hostBreak, State.hostCharError_on on, State.hostDiscard_receive progress]
  · exact congrArg Host.Outcome.next ((State.hostCharError_on on).trans (State.hostDiscard_hunt hunting _))
  · exact congrArg Host.Outcome.next (State.hostDiscard_hunt hunting _)
  · show Host.Outcome.next s.hostBreak = _
    simp only [State.hostBreak, State.hostCharError_on on, State.hostDiscard_hunt hunting]
  · show Host.Outcome.next (s.hostChar _) = _
    rw [State.hostChar_address on, HostLink.addressed_other other unit]
  · exact congrArg Host.Outcome.next (State.hostChars_lineLow rfl chars)
  · have high := State.lineHigh_of_listening on
    show Host.Outcome.next ({ s with link.lineLow := false } : State) = _
    rw [← high]

/-! ### Replies (R173, R174, R176, R177) -/

/-- Settles O10. -/
theorem repliesLeaveOldestFirst : Obligations.RepliesLeaveOldestFirst := by
  refine ⟨⟨fun r rest s on queue => ?_, fun frame s sending => ⟨?_, fun position inside => ?_⟩, fun s empty => ?_,
    fun s idle => ⟨?_, fun position => ?_⟩⟩, fun s => s.serve_idle, fun tag rest s room => ?_⟩
  · show Host.Outcome.next s.startReply = _
    simp only [State.startReply, if_pos on, queue]
    rfl
  · show Host.Outcome.next s.completeReply = _
    simp only [State.completeReply, sending]
    rfl
  · show Host.Outcome.next (s.collide position) = _
    simp only [State.collide, sending, if_pos inside]
    by_cases early : position ≤ 2
    · simp [HostLink.replyEnded, early, Nat.not_lt.mpr early]
    · simp [HostLink.replyEnded, early, Nat.not_le.mp early]
  · show Host.Outcome.next s.startReply = _
    simp only [State.startReply, empty, ite_self]
  · show Host.Outcome.next s.completeReply = _
    simp only [State.completeReply, idle]
  · show Host.Outcome.next (s.collide position) = _
    simp only [State.collide, idle]
  · have taken {q : HostRequest} {t : State} (waiting : s.link.fifo = q :: rest)
        (dispatched : ({ s with link.fifo := rest } : State).dispatch q = t) : s.serve = t.serve := by
      rw [State.serve_cons waiting room, dispatched]
    refine ⟨fun q waiting => taken waiting (State.dispatch_addressed tag q _),
      fun q waiting => taken waiting (State.dispatch_toAll tag q _),
      fun kind body broadcast waiting unknown => taken waiting ?_,
      fun k body broadcast waiting noLength => taken waiting ?_⟩
    · rw [State.dispatch_unknown _ _ unknown]
      cases broadcast <;> rfl
    · rw [State.dispatch_badLength tag k body broadcast _ noLength]
      cases broadcast <;> rfl

end Sys2Proof.Machine
end

section
/-! The pipeline port's frames and its sender (R92, R93, R178, R179). -/

namespace Sys2Proof.Machine

section
variable {d : Device}

theorem Device.pipeData_more {taken : List Byte} (more : frameProgress taken = .more) :
    d.pipeData taken = { d with pipe.parser := .receive false taken } := by
  simp only [Device.pipeData, more]

/-- A run of characters that begins a frame for address 0: the data characters are taken as one. -/
theorem Device.pipeChars_addressed (high : d.pipe.lineLow = false) {data : List Byte} (some' : data ≠ [])
    (part : ∀ n, 0 < n → n < data.length → frameProgress (data.take n) = .more) :
    d.pipeChars (⟨true, 0⟩ :: data.map (LineChar.mk false)) = d.pipeData data := by
  have begun : d.pipeChar ⟨true, 0⟩ = { d with pipe.parser := .receive false [] } := by simp [Device.pipeChar, high]
  rw [Device.pipeChars, List.foldl_cons, begun]
  refine foldl_frame (held := fun taken => { d with pipe.parser := .receive false taken }) (made := d.pipeData)
    (fun taken x => ?_) (fun _ => Device.pipeData_more) data [] some' part
  rw [Device.pipeChar, if_neg (ne_true_of_eq_false high), if_neg Bool.false_ne_true]
  rfl

/-- A frame for address 0, with any two characters in the check's place. -/
theorem Device.pipeChars_frame (high : d.pipe.lineLow = false) (tag kind x y : Byte) {body : List Byte}
    (short : body.length ≤ 240) :
    d.pipeChars (⟨true, 0⟩ :: (requestData tag kind body ++ [x, y]).map (LineChar.mk false))
      = d.pipeData (requestData tag kind body ++ [x, y]) :=
  Device.pipeChars_addressed high (by simp) fun n _ => frame_part tag kind short x y n

theorem reportBody_length (frame : BitVec 16) (mean base : PerChannel (BitVec 16)) (dust scratch : BitVec 16)
    (flags : Byte) : (reportBody frame mean base dust scratch flags).length = 19 := by
  simp [reportBody, wrTriple, be16]

/-- A report's body is read back as its fields, densities above 4095 taken as 4095 (R93, 12.4). -/
theorem readReport_reportBody (tag : Byte) (frame : BitVec 16) (mean base : PerChannel (BitVec 16))
    (dust scratch : BitVec 16) (flags : Byte) :
    readReport tag (reportBody frame mean base dust scratch flags) = some
      { tag, frame := frame.toNat, mean := mean.map fun x => min 4095 x.toNat
        base := base.map fun x => min 4095 x.toNat, dust := dust.toNat, scratch := scratch.toNat
        exposureClip := flags.getLsbD 0, focusFail := flags.getLsbD 1 } := by
  simp only [readReport, reportBody, List.append_assoc, rd16_be16, rdTriple_be16, Option.bind_eq_bind, Option.bind_some,
    rd8_cons, atEnd]
  rfl

/-- Only a body of 19 bytes is read as a report. -/
theorem readReport_none {tag : Byte} {body : List Byte} (other : body.length ≠ 19) : readReport tag body = none := by
  cases read : readReport tag body with
  | none => rfl
  | some r =>
    simp only [readReport, bind_some, rd8_some, rd16_some, rdTriple_some rd16_some, atEnd_some] at read
    obtain ⟨_, _, rfl, _, _, rfl, _, _, rfl, _, _, rfl, _, _, rfl, _, _, rfl, rfl, -⟩ := read
    exact absurd (by simp [wrTriple, be16]) other

theorem Device.pipeFrame_bad {tag kind : Byte} {body : List Byte} (bad : kind ≠ 161 ∨ body.length ≠ 19) :
    d.pipeFrame tag kind body = d.count .badFrames := by
  have none' : (if kind = frameReportKind then readReport tag body else none) = none := by
    obtain other | length := bad
    · exact if_neg other
    · rw [readReport_none length, ite_self]
  simp only [Device.pipeFrame, none']

theorem Device.pipeDiscard_receive {broadcast : Bool} {taken : List Byte}
    (progress : d.pipe.parser = .receive broadcast taken) :
    d.pipeDiscard = ({ d with pipe.parser := .hunt } : Device).count .badFrames := by
  simp only [Device.pipeDiscard, progress]

theorem Device.pipeDiscard_hunt (hunting : d.pipe.parser = .hunt) : d.pipeDiscard = d := by
  simp only [Device.pipeDiscard, hunting]

theorem Device.pipeCharError_high (high : d.pipe.lineLow = false) : d.pipeCharError = d.pipeDiscard := by
  simp only [Device.pipeCharError, high, Bool.false_eq_true, if_false]

theorem Device.pipeChar_other (high : d.pipe.lineLow = false) {a : Byte} (other : a ≠ 0) :
    d.pipeChar ⟨true, a⟩ = d.pipeDiscard := by
  rw [Device.pipeChar, if_neg (ne_true_of_eq_false high), if_pos rfl, if_neg other]

end

/-- An event that reaches the device alone gives what the device becomes. -/
theorem State.next_dev (s : State) {d e : Device} (h : d = e) :
    (Host.Outcome.next { s with dev := d } : Host.Outcome State Fault Refusal) = .next { s with dev := e } := by
  rw [h]

/-- Settles O11. -/
theorem pipelineFramesAreReadOrDiscarded : Obligations.PipelineFramesAreReadOrDiscarded := by
  refine ⟨fun tag frame mean base dust scratch flags s high => ?_,
    fun s high => ⟨fun tag kind x y body short bad => ?_, fun broadcast taken progress => ?_, fun hunting => ?_, ?_,
      fun tag kind length long => ?_⟩,
    fun s => ⟨fun idle => ?_, fun busy none' => ?_, fun o rest busy waiting => ?_⟩⟩
  · have short : (reportBody frame mean base dust scratch flags).length ≤ 240 := by simp [reportBody_length]
    have whole := frameProgress_whole tag 161 _ short
    refine s.next_dev ((Device.pipeChars_frame high tag 161 _ _ short).trans ?_)
    simp only [be16] at whole
    simp only [Device.pipeData, whole, Device.pipeFrame, frameReportKind, if_true, readReport_reportBody]
  · show Host.Outcome.next { s with dev := s.dev.pipeChars _ } = _
    rw [Device.pipeChars_frame high tag kind x y short]
    simp only [Device.pipeData, frameProgress_check tag kind body short x y]
    split
    · rename_i more
      split at more <;> cases more
    · rfl
    · rfl
    · rename_i good
      split at good
      · cases good
        rw [Device.pipeFrame_bad (bad.resolve_left fun wrong => wrong ‹_›)]
      · cases good
  · have bad := Device.pipeDiscard_receive progress
    have error := (Device.pipeCharError_high high).trans bad
    refine ⟨s.next_dev error,
      s.next_dev bad, ?_, fun value other =>
        s.next_dev ((Device.pipeChar_other high other).trans bad)⟩
    show Host.Outcome.next { s with dev := s.dev.pipeBreak } = _
    simp only [Device.pipeBreak, error]
  · have same := Device.pipeDiscard_hunt hunting
    have error := (Device.pipeCharError_high high).trans same
    refine ⟨s.next_dev error,
      s.next_dev same, ?_, fun value other =>
        s.next_dev ((Device.pipeChar_other high other).trans same)⟩
    show Host.Outcome.next { s with dev := s.dev.pipeBreak } = _
    simp only [Device.pipeBreak, error]
  · show Host.Outcome.next ({ s with dev.pipe.lineLow := false } : State) = _
    rw [← high]
  · have tooLong : frameProgress [tag, kind, length] = .tooLong := if_pos long
    have taken := Device.pipeChars_addressed high (data := [tag, kind, length]) (by simp) fun
      | 1, _, _ => rfl
      | 2, _, _ => rfl
    simp only [Device.pipeData, tooLong] at taken
    exact s.next_dev taken
  all_goals show Host.Outcome.next { s with dev.pipe := s.dev.pipe.sent } = _
  · simp only [PipelinePort.sent, idle]
  · obtain ⟨none'', -⟩ | ⟨-, -, e⟩ | ⟨-, o, rest, some', -⟩ := s.dev.pipe.sent_cases
    · simp [none''] at busy
    · rw [e]
    · cases none'.symm.trans some'
  · obtain ⟨none'', -⟩ | ⟨-, none'', -⟩ | ⟨-, o', rest', some', e⟩ := s.dev.pipe.sent_cases
    · simp [none''] at busy
    · cases waiting.symm.trans none''
    · cases waiting.symm.trans some'
      rw [e]

end Sys2Proof.Machine
end

section
/-! Time: the run counter, the suite clock and its requests (R38 to R42). -/

namespace Sys2Proof.Machine

/-! ### The run counter (R39) -/

theorem TimeBase.micro_runCounter (t : TimeBase) : t.micro.runCounter = t.runCounter := by
  rw [TimeBase.micro]
  split <;> rfl

/-- Nothing but the run counter's tick and a full reset moves the run counter. -/
theorem runCounterKept (n : Nat) : Kept fun d => d.time.runCounter = n where
  answer := by simp
  count := by simp
  micro d h := (d.time.micro_runCounter).trans h
  sample := by simp
  filmRises := by simp
  filmFalls := by simp
  edge := by simp
  acclimatized := by simp
  reportExpires := by simp
  threadingExpires := by simp
  relaxExpires := by simp
  strainExpires := by simp
  slipExpires := by simp
  orderSent := by simp
  report := by simp
  port _ _ _ h := h

/-- Settles O12. -/
theorem runCounterCountsMilliseconds : Obligations.RunCounterCountsMilliseconds := by
  refine ⟨fun s below => ?_, fun s past => ⟨(Config.runCounterPastEnd s.dev.freeDraws).toNat, ?_⟩,
    fun c s t tick reset he => ?_⟩
  · exact s.next_dev (if_pos below)
  · exact s.next_dev (if_neg (Nat.not_lt.mpr past))
  · exact (runCounterKept _).exec c s t (fun e => absurd e tick) (fun a r e => absurd e (reset a r)) he rfl

/-! ### The suite clock (R38) -/

theorem SuiteTime.total_ofTotal (n : Nat) : (SuiteTime.ofTotal n).total = n := by
  simp only [SuiteTime.total, SuiteTime.ofTotal]
  omega

/-- Below its greatest value the clock and its remainder advance together by the trimmed microsecond. -/
theorem TimeBase.micro_below {t : TimeBase} (low : -500 ≤ t.trim) {now : Nat} (reads : t.clock.total = now)
    (below : now < clockMax) :
    t.micro =
      { t with
        clock := .ofTotal (min clockMax (now + (t.remainder + (1000000 + t.trim).toNat) / 1000000))
        remainder := (t.remainder + (1000000 + t.trim).toNat) % 1000000 } := by
  have sum : ((t.remainder : Int) + 1000000 + t.trim).toNat = t.remainder + (1000000 + t.trim).toNat := by omega
  rw [TimeBase.micro, reads, if_neg (Nat.not_le.mpr below), sum]

theorem TimeBase.micro_ofTotal {now remainder runCounter : Nat} {trim : Int} (low : -500 ≤ trim)
    (within : now + (remainder + (1000000 + trim).toNat) / 1000000 < clockMax) :
    TimeBase.micro { clock := .ofTotal now, trim, remainder, runCounter } =
      { clock := .ofTotal (now + (remainder + (1000000 + trim).toNat) / 1000000), trim
        remainder := (remainder + (1000000 + trim).toNat) % 1000000, runCounter } := by
  rw [TimeBase.micro_below (t := ⟨.ofTotal now, trim, remainder, runCounter⟩) low (SuiteTime.total_ofTotal now) (by omega),
    Nat.min_eq_right (Nat.le_of_lt within)]

/-- The clock and its remainder, a number of millionths of a microsecond later. -/
def TimeBase.advanced (t : TimeBase) (passed : Nat) : TimeBase :=
  { t with
    clock := .ofTotal (t.clock.total + (t.remainder + passed) / 1000000)
    remainder := (t.remainder + passed) % 1000000 }

theorem TimeBase.advanced_zero {t : TimeBase} (valid : t.clock.micros < 1000000) (rest : t.remainder < 1000000) :
    t.advanced 0 = t := by
  obtain ⟨⟨seconds, micros⟩, trim, remainder, runCounter⟩ := t
  simp only at valid rest
  simp only [TimeBase.advanced, SuiteTime.total, SuiteTime.ofTotal, TimeBase.mk.injEq, SuiteTime.mk.injEq, true_and,
    and_true]
  omega

theorem TimeBase.micro_advanced {t : TimeBase} (low : -500 ≤ t.trim) {passed : Nat}
    (below : t.clock.total + (t.remainder + (passed + (1000000 + t.trim).toNat)) / 1000000 < clockMax) :
    (t.advanced passed).micro = t.advanced (passed + (1000000 + t.trim).toNat) := by
  obtain ⟨clock, trim, remainder, runCounter⟩ := t
  simp only at low below
  simp only [TimeBase.advanced]
  rw [TimeBase.micro_ofTotal low (by omega)]
  simp only [TimeBase.mk.injEq, and_true, true_and]
  exact ⟨congrArg _ (by omega), by omega⟩

theorem TimeBase.micro_iterate {t : TimeBase} (valid : t.clock.micros < 1000000) (rest : t.remainder < 1000000)
    (low : -500 ≤ t.trim) (n : Nat)
    (below : t.clock.total + (t.remainder + n * (1000000 + t.trim).toNat) / 1000000 < clockMax) :
    TimeBase.micro^[n] t = t.advanced (n * (1000000 + t.trim).toNat) := by
  induction n with
  | zero => rw [Nat.zero_mul, TimeBase.advanced_zero valid rest, Function.iterate_zero, id_eq]
  | succ n ih =>
    rw [Nat.succ_mul] at below ⊢
    rw [Function.iterate_succ_apply', ih (by omega), TimeBase.micro_advanced low below]

theorem step_suiteClockTick (l : List Instr) (s : State) :
    step { s with pending := .suiteClockTick :: l } = .next { s with pending := l, dev.time := s.dev.time.micro } := rfl

theorem run_of_step {n : Nat} {s t : State} (h : step s = .next t) :
    Sys2Proof.core.run (n + 1) s = Sys2Proof.core.run n t := by
  simp only [Host.Core.run]
  rw [show Sys2Proof.core.step s = .next t from h]

/-- A run of ticks carries out each in turn. -/
theorem run_suiteClockTicks (n : Nat) (s : State) :
    Sys2Proof.core.run n ({ s with pending := List.replicate n .suiteClockTick } : State)
      = .next ({ s with pending := [], dev.time := TimeBase.micro^[n] s.dev.time } : State) := by
  induction n generalizing s with
  | zero => rfl
  | succ n ih =>
    have rest (t : TimeBase) :
        Sys2Proof.core.run n ({ s with pending := List.replicate n .suiteClockTick, dev.time := t } : State)
          = .next ({ s with pending := [], dev.time := TimeBase.micro^[n] t } : State) := ih { s with dev.time := t }
    rw [List.replicate_succ, run_of_step (step_suiteClockTick _ s), Function.iterate_succ_apply]
    exact rest s.dev.time.micro

/-- Settles O13. -/
theorem suiteClockRunsAtTrimmedRate : Obligations.SuiteClockRunsAtTrimmedRate := by
  refine ⟨?_, ?_, fun s last => ?_⟩
  · intro n s valid rest low _ now sum after below
    rw [run_suiteClockTicks, TimeBase.micro_iterate valid rest low n below]
    rfl
  · intro s valid rest low _ now below sum after
    exact s.next_dev (congrArg (fun t => { s.dev with time := t }) (TimeBase.micro_below low rfl below))
  · have stopped : s.dev.time.micro = s.dev.time := if_pos (by rw [last]; decide)
    exact s.next_dev (congrArg (fun t => { s.dev with time := t }) stopped)

/-! ### The clock's requests (R41, R42) -/

/-- Settles O14. -/
theorem adjustAndTrimSetTheClock : Obligations.AdjustAndTrimSetTheClock := by
  refine ⟨fun seconds micros s => ⟨fun above => ?_, ?_⟩, ?_⟩
  · exact State.gives_of (.adjustClock seconds micros) (fun _ => rfl) rfl (if_pos above)
  · intro valid sum clock
    have stepped : s.dev.time.clock.stepped seconds.toInt micros.toNat = sum := by
      simp only [SuiteTime.stepped, SuiteTime.total, sum]
      push_cast
      rfl
    have placed : SuiteTime.ofTotal (clampInt 0 clockMax sum).toNat = clock := by
      rw [clampInt_eq_ite (by decide)]
      simp only [clock]
      repeat' split
      all_goals first | rfl | (simp only [clockMax] at *; omega)
    refine State.gives_of (.adjustClock seconds micros) (fun _ => rfl) rfl ?_
    simp only [carryOut, answerAdjustClock, if_neg (Nat.not_le.mpr valid), stepped, placed, okOr, decide_eq_true_eq]
    rfl
  · intro trim s stored
    have clamped : clampInt (-500) 500 trim.toInt = stored := clampInt_eq_ite (by decide) _
    refine State.gives_of (.trimClock trim) (fun _ => rfl) rfl ?_
    simp only [carryOut, answerTrimClock, clamped, okOr, decide_eq_true_eq]
    by_cases same : stored = trim.toInt <;> simp [same]

end Sys2Proof.Machine
end

section
/-! The Reel Catalogue: enrolment, arrival, and the start of a session (R2, R3, R6 to R8). -/

namespace Sys2Proof.Machine

/-! ### Operands (R2, R3) -/

/-- The status of densities, each channel of which is brought to 4095. -/
theorem okOr_densityClamped (fade : PerChannel (BitVec 16)) :
    okOr (densityClamped fade)
      = if 4095 < fade.red.toNat ∨ 4095 < fade.green.toNat ∨ 4095 < fade.blue.toNat then .okClamped else .ok := by
  simp [okOr, densityClamped, PerChannel.any, or_assoc]

theorem readLocation_slot {n : Nat} (top : n ≤ 255) : readLocation ⟨0, BitVec.ofNat 16 n⟩ = some (.slot n) := by
  have value : (BitVec.ofNat 16 n).toNat = n := by simp; omega
  rw [readLocation, if_pos rfl, value, if_pos top]

theorem readLocation_suite (z : Zone) : readLocation ⟨1, BitVec.ofNat 16 z.code⟩ = some (.suite z) := by
  cases z <;> rfl

/-- A location out of range names nothing. -/
theorem readLocation_none {l : LocationOperand}
    (out : (l.kind = 0 ∧ 255 < l.value.toNat) ∨ (l.kind = 1 ∧ Zone.ofCode l.value.toNat = none) ∨ 1 < l.kind.toNat) :
    readLocation l = none := by
  obtain ⟨slot, above⟩ | ⟨suite, noZone⟩ | other := out
  · rw [readLocation, if_pos slot, if_neg (Nat.not_le.mpr above)]
  · rw [readLocation, if_neg (by simp [suite]), if_pos suite, noZone]
    rfl
  · have not (n : Byte) (small : n.toNat ≤ 1) : l.kind ≠ n := fun e => by rw [e] at other; omega
    rw [readLocation, if_neg (not 0 (by decide)), if_neg (not 1 (by decide))]

theorem readPasses_given (cls : DecayClass) {b : Byte} (valid : b.toNat ≤ 15 ∨ b = 255) :
    readPasses cls b = some (if b = 255 then defaultPasses cls else b.toNat) := by
  obtain small | rfl := valid
  · have notDefault : b ≠ 255 := by rintro rfl; exact absurd small (by decide)
    rw [readPasses, if_pos small, if_neg notDefault]
  · rfl

theorem readPasses_none (cls : DecayClass) {b : Byte} (above : 15 < b.toNat) (below : b.toNat < 255) :
    readPasses cls b = none := by
  have notDefault : b ≠ 255 := by rintro rfl; exact absurd below (by decide)
  rw [readPasses, if_neg (Nat.not_le.mpr above), if_neg notDefault]

/-- A field out of range makes no record (R2, step 1). -/
theorem readEnrol_none {op : EnrolOperands}
    (out : op.reelId = 0 ∨ op.length = 0 ∨ 999 < op.shrinkage.toNat ∨ Gauge.ofCode op.gauge.toNat = none
      ∨ DecayClass.ofCode op.cls.toNat = none ∨ yesNo op.permit = none ∨ Zone.ofCode op.home.toNat = none
      ∨ (15 < op.passes.toNat ∧ op.passes.toNat < 255)
      ∨ (op.location.kind = 0 ∧ 255 < op.location.value.toNat)
      ∨ (op.location.kind = 1 ∧ Zone.ofCode op.location.value.toNat = none) ∨ 1 < op.location.kind.toNat) :
    readEnrol op = none := by
  simp only [readEnrol, Option.bind_eq_bind, Option.bind_eq_none_iff, ite_eq_left_iff, reduceCtorEq, imp_false,
    not_not]
  intro gauge hasGauge cls hasClass permit hasPermit passes hasPasses home hasHome location hasLocation
  obtain id | length | shrinkage | none' | none' | none' | none' | ⟨above, below⟩ | out := out
  · exact .inl id
  · exact .inr (.inl length)
  · exact .inr (.inr shrinkage)
  · cases none'.symm.trans hasGauge
  · cases none'.symm.trans hasClass
  · cases none'.symm.trans hasPermit
  · cases none'.symm.trans hasHome
  · cases (readPasses_none cls above below).symm.trans hasPasses
  · cases (readLocation_none out).symm.trans hasLocation

/-! ### ENROL_REEL (R2, R3) -/

section
variable {d : Device} {op : EnrolOperands} {new : Reel} {location : Location}

theorem answerEnrolReel_held (read : readEnrol op = some (new, location)) (held : ∃ r ∈ d.reels, r.id = new.id) :
    answerEnrolReel op d = refuse .badValue d := by
  have found : (d.findReel new.id).isSome := by simpa [Device.findReel] using held
  simp only [answerEnrolReel, read, if_pos found]

theorem answerEnrolReel_full (read : readEnrol op = some (new, location)) (fresh : ∀ r ∈ d.reels, r.id ≠ new.id)
    (full : 256 ≤ d.reels.length) : answerEnrolReel op d = refuse .full d := by
  simp only [answerEnrolReel, read, Device.findReel_eq_none fresh, Option.isSome_none, Bool.false_eq_true, if_false,
    if_pos full]

theorem answerEnrolReel_taken {n : Nat} (read : readEnrol op = some (new, .slot n))
    (fresh : ∀ r ∈ d.reels, r.id ≠ new.id) (room : d.reels.length < 256) (taken : d.slot n ≠ .free) :
    answerEnrolReel op d = refuse .wrongState d := by
  simp only [answerEnrolReel, read, Device.findReel_eq_none fresh, Option.isSome_none, Bool.false_eq_true, if_false,
    if_neg (Nat.not_le.mpr room), if_pos taken]

/-- A record appended under a new id is the one that the id finds. -/
theorem Device.findReel_append (d : Device) {x : Reel} (fresh : ∀ r ∈ d.reels, r.id ≠ x.id) :
    ({ d with reels := d.reels ++ [x] } : Device).findReel x.id = some x := by
  have none' : d.reels.find? (fun r => decide (r.id = x.id)) = none := Device.findReel_eq_none fresh
  simp [Device.findReel, List.find?_append, none']

/-- A reel that holds a slot is noticed where its class's mask leaves out the slot's zone (R27). -/
theorem Device.noticeMisplaced_slot {x : Reel} (found : d.findReel x.id = some x) {n : Nat}
    (slot : x.state.slot? = some n) :
    d.noticeMisplaced x.id = if d.allowed x.cls (zoneOf n) then d else d.post .misplaced x.id n := by
  simp only [Device.noticeMisplaced, found, slot]

theorem answerEnrolReel_shelved {n : Nat} (read : readEnrol op = some (new, .slot n))
    (fresh : ∀ r ∈ d.reels, r.id ≠ new.id) (room : d.reels.length < 256) (free : d.slot n = .free) :
    answerEnrolReel op d =
      (let reel : Reel := { new with state := .shelved n }
       let e : Device := ({ d with reels := d.reels ++ [reel] } : Device).setSlot n (.occupied new.id)
       (if d.allowed new.cls (zoneOf n) then e else e.post .misplaced new.id n,
        ⟨okOr (densityClamped op.fade), reel.bytes d.time.runCounter⟩)) := by
  have found := d.findReel_append (x := { new with state := .shelved n }) fresh
  have noticed := Device.noticeMisplaced_slot
    (d := ({ d with reels := d.reels ++ [{ new with state := .shelved n }] } : Device).setSlot n (.occupied new.id))
    found rfl
  simp only at noticed
  simp only [answerEnrolReel, read, Device.findReel_eq_none fresh, Option.isSome_none, Bool.false_eq_true, if_false,
    if_neg (Nat.not_le.mpr room), if_neg (not_not.mpr free), noticed, Prod.mk.injEq]
  refine ⟨rfl, ?_⟩
  split <;> rfl

theorem answerEnrolReel_suite {z : Zone} (read : readEnrol op = some (new, .suite z))
    (fresh : ∀ r ∈ d.reels, r.id ≠ new.id) (room : d.reels.length < 256) :
    answerEnrolReel op d =
      (let reel : Reel := { new with state := d.arrival z }
       ({ d with reels := d.reels ++ [reel] }, ⟨okOr (densityClamped op.fade), reel.bytes d.time.runCounter⟩)) := by
  simp only [answerEnrolReel, read, Device.findReel_eq_none fresh, Option.isSome_none, Bool.false_eq_true, if_false,
    if_neg (Nat.not_le.mpr room)]
  rfl

end

/-- Settles O15. -/
theorem enrolReelAddsRecord : Obligations.EnrolReelAddsRecord := by
  refine ⟨fun op s out => State.gives_of (.enrolReel op) (fun _ => rfl) rfl ?_, ?_⟩
  · simp only [carryOut, answerEnrolReel, readEnrol_none out, refuse]
  intro op gauge cls permit home s id length shrinkage hasGauge hasClass hasPermit hasHome passes
  have read {location : Location} (l : readLocation op.location = some location) :
      readEnrol op = some
        ({ id := op.reelId.toNat, gauge, length := op.length.toNat, label := op.label, cls, permit
           shrinkage := op.shrinkage.toNat, passes := if op.passes = 255 then defaultPasses cls else op.passes.toNat
           passTotal := 0, fadeRef := op.fade.map clampDensity, home
           state := .ready, deferred := 0, graded := false, sessionLost := false }, location) := by
    have inRange : ¬ (op.reelId = 0 ∨ op.length = 0 ∨ 999 < op.shrinkage.toNat) := by
      rintro (zero | zero | above)
      · exact id zero
      · exact length zero
      · omega
    simp only [readEnrol, hasGauge, hasClass, hasPermit, hasHome, readPasses_given cls passes, l,
      Option.bind_eq_bind, Option.bind_some, if_neg inRange]
  have gives {d' : Device} {status : Status} {body : List Byte} :=
    State.gives_of (s := s) (c := (.enrolReel · op)) (d := d') (status := status) (body := body) (.enrolReel op)
      (fun _ => rfl) rfl
  refine ⟨fun n top slot => ?_, fun z suite => ?_⟩
  · have read := read (slot ▸ readLocation_slot top)
    refine ⟨fun held => gives (answerEnrolReel_held read held), fun fresh =>
      ⟨fun full => gives (answerEnrolReel_full read fresh full), fun room =>
        ⟨fun taken => gives (answerEnrolReel_taken read fresh room taken), fun free => gives ?_⟩⟩⟩
    rw [carryOut, answerEnrolReel_shelved read fresh room free, okOr_densityClamped]
    cases cls <;> rfl
  · have read := read (suite ▸ readLocation_suite z)
    refine ⟨fun held => gives (answerEnrolReel_held read held), fun fresh =>
      ⟨fun full => gives (answerEnrolReel_full read fresh full), fun room => gives ?_⟩⟩
    rw [carryOut, answerEnrolReel_suite read fresh room, okOr_densityClamped]
    cases cls <;> rfl

/-! ### REEL_ARRIVED and acclimatization (R6, R7) -/

section
variable {d : Device} {id : BitVec 32} {r : Reel}

theorem answerReelArrived_outbound (h : d.Names id r) {n : Nat} (hs : r.state = .outbound n) :
    answerReelArrived id d =
      (((d.freeSlot n).setReel r.id fun x => { x with state := d.arrival (zoneOf n) }).offer n,
        ⟨.ok, u8 (d.arrival (zoneOf n)).code ++ counterBytes (d.arrival (zoneOf n)).deadline?⟩) := by
  simp only [answerReelArrived, withReel_names h, hs]

theorem answerReelArrived_refused (h : d.Names id r) (hs : ∀ n, r.state ≠ .outbound n) :
    answerReelArrived id d = refuse .wrongState d := by
  simp only [answerReelArrived, withReel_names h]
  split
  · exact absurd ‹_› (hs _)
  all_goals rfl

theorem Device.acclimatized_reached {n : Nat} (found : d.findReel n = some r) {deadline : Nat}
    (waits : r.state = .acclimatizing deadline) (reached : deadline ≤ d.time.runCounter) :
    d.acclimatized n = (d.setReel r.id fun x => { x with state := .ready }).post .reelReady r.id 0 := by
  simp [Device.acclimatized, found, waits, ReelState.deadline?, Device.reached, reached]

theorem Device.acclimatized_early {n : Nat} (found : d.findReel n = some r)
    (early : ∀ deadline, r.state = .acclimatizing deadline → d.time.runCounter < deadline) : d.acclimatized n = d := by
  have not : d.reached r.state.deadline? = false := by
    cases state : r.state with
    | acclimatizing deadline => simp [ReelState.deadline?, Device.reached, early deadline state]
    | _ => rfl
  simp only [Device.acclimatized, found, not, Bool.false_eq_true, if_false]

end

/-- Settles O18. -/
theorem arrivedReelAcclimatizes : Obligations.ArrivedReelAcclimatizes := by
  refine ⟨fun id r s h => ⟨fun n hs => State.gives_of (.reelArrived id) (fun _ => rfl) rfl ?_,
    fun hs => State.gives_of (.reelArrived id) (fun _ => rfl) rfl (answerReelArrived_refused h hs)⟩,
    fun id r s found => ⟨fun deadline waits reached => s.next_dev (Device.acclimatized_reached found waits reached),
      fun early => s.next_dev (Device.acclimatized_early found early)⟩⟩
  refine (answerReelArrived_outbound h hs).trans (Prod.ext rfl (congrArg (Answer.mk _) ?_))
  simp only [Device.arrival]
  split <;> rfl

/-! ### LOAD_REEL (R8, R71) -/

section
variable {d : Device} {id : BitVec 32} {r : Reel} {head : Option (BitVec 16)}

theorem answerLoadReel_outside (h : d.Names id r) (outside : r.length ≤ (head.getD 0).toNat) :
    answerLoadReel id head d = refuse .badValue d := by
  simp only [answerLoadReel, withReel_names h, if_pos outside]

theorem answerLoadReel_refused (h : d.Names id r) (inside : (head.getD 0).toNat < r.length)
    (busy : r.state ≠ .ready ∨ d.loadedReel.isSome) : answerLoadReel id head d = refuse .wrongState d := by
  simp only [answerLoadReel, withReel_names h, if_neg (Nat.not_le.mpr inside), if_pos busy]

theorem answerLoadReel_loads (h : d.Names id r) (inside : (head.getD 0).toNat < r.length) (ready : r.state = .ready)
    (none' : d.loadedReel = none) :
    answerLoadReel id head d = (d.startSession r (head.getD 0).toNat,
      ⟨.ok, ({ r with state := .loaded, sessionLost := false } : Reel).bytes d.time.runCounter⟩) := by
  have found : (d.startSession r (head.getD 0).toNat).findReel r.id
      = some { r with state := .loaded, sessionLost := false } :=
    Device.findReel_setReel (d := d) (fun _ => rfl) (Device.findReel_id h.2 ▸ h.2)
  simp only [answerLoadReel, withReel_names h, if_neg (Nat.not_le.mpr inside), ready, none', found]
  rfl

end

/-- Settles O19. -/
theorem loadReelStartsSession : Obligations.LoadReelStartsSession := by
  intro id head r s h
  refine ⟨fun outside => State.gives_of (.loadReel id head) (fun _ => rfl) rfl (answerLoadReel_outside h outside),
    fun inside => ⟨fun busy =>
      State.gives_of (.loadReel id head) (fun _ => rfl) rfl (answerLoadReel_refused h inside busy), fun ready none' =>
      State.gives_of (.loadReel id head) (fun _ => rfl) rfl
        ((answerLoadReel_loads h inside ready none').trans (Prod.ext ?_ rfl))⟩⟩
  simp only [Device.startSession, Tracker.atLoad, startPitch]
  cases r.gauge <;> rfl

end Sys2Proof.Machine
end

section
/-! The end of a session, the condition of a reel, and slots and zones (R9 to R11, R14, R18, R24 to R28, R32). -/

namespace Sys2Proof.Machine

section
variable {d : Device} {r : Reel}

/-! ### The end of a session (R10, R11) -/

/-- What the end of a session leaves of everything but the reel and the slot it goes to (R11, steps 2 and 4). -/
def Device.sessionOver (d : Device) : Device := d.discardOrders.emptySession

/-- The reel's record with its results, found again. -/
theorem Device.findReel_results (found : d.findReel r.id = some r) (graded : Bool) (deferred : Nat) :
    (d.setReel r.id fun x => { x with graded := graded, deferred := deferred }).findReel r.id
      = some { r with graded := graded, deferred := deferred } :=
  Device.findReel_setReel (f := fun x => { x with graded := graded, deferred := deferred }) (fun _ => rfl) found

/-- The reel goes to the slot that R29 chooses. -/
theorem Device.endSession_slot (found : d.findReel r.id = some r) {graded : Bool} {deferred n : Nat}
    (choice : d.returnSlot { r with graded := graded, deferred := deferred } = some n) :
    d.endSession r.id graded deferred =
      ((((d.setReel r.id fun x => { x with graded := graded, deferred := deferred }).setSlot n (.reserved r.id)).setReel
        r.id fun x => { x with state := .returning n })).sessionOver := by
  have results : (d.setReel r.id fun x => { x with graded := graded, deferred := deferred }).discardOrders.findReel r.id
      = some { r with graded := graded, deferred := deferred } := Device.findReel_results found graded deferred
  have choice' : (d.setReel r.id fun x => { x with graded := graded, deferred := deferred }).discardOrders.returnSlot
      { r with graded := graded, deferred := deferred } = some n := choice
  simp only [Device.endSession, results, Device.sendBack, choice']
  rfl

/-- With no slot for it the reel joins the hold queue. -/
theorem Device.endSession_hold (found : d.findReel r.id = some r) {graded : Bool} {deferred : Nat}
    (choice : d.returnSlot { r with graded := graded, deferred := deferred } = none) :
    d.endSession r.id graded deferred =
      (({ (d.setReel r.id fun x => { x with graded := graded, deferred := deferred }).setReel r.id
            fun x => { x with state := .hold } with
          vault.hold := d.vault.hold ++ [r.id] } : Device).post .reelHeld r.id 0).sessionOver := by
  have results : (d.setReel r.id fun x => { x with graded := graded, deferred := deferred }).discardOrders.findReel r.id
      = some { r with graded := graded, deferred := deferred } := Device.findReel_results found graded deferred
  have choice' : (d.setReel r.id fun x => { x with graded := graded, deferred := deferred }).discardOrders.returnSlot
      { r with graded := graded, deferred := deferred } = none := choice
  simp only [Device.endSession, results, Device.sendBack, choice']
  rfl

theorem Repair.emptied_emptied (q : Repair) : q.emptied.emptied = q.emptied := by
  simp only [Repair.emptied, Vector.map_map, Repair.mk.injEq, true_and, and_true]
  refine Vector.map_congr_left fun ⟨state, mask⟩ _ => ?_
  cases state <;> rfl

/-- Closing the open work changes nothing that the end of the session keeps (R10, R11). -/
theorem Device.closeOpenWork_over (reels : List Reel) (vault : Vault) (nl : NoticeList) (d : Device) :
    ({ d.closeOpenWork with reels, vault, nl } : Device).sessionOver
      = ({ d with reels, vault, nl } : Device).sessionOver := by
  simp only [Device.sessionOver, Device.emptySession, Device.discardOrders, Device.closeOpenWork, Device.lockAll,
    Device.setShots, Device.deferOpenWork, Repair.emptied_emptied, Grading.emptied]

theorem Device.closeOpenWork_endSession (found : d.findReel r.id = some r) (graded : Bool) (deferred : Nat) :
    d.closeOpenWork.endSession r.id graded deferred = d.endSession r.id graded deferred := by
  have found' : d.closeOpenWork.findReel r.id = some r := found
  cases choice : d.returnSlot { r with graded := graded, deferred := deferred } with
  | some n =>
    rw [Device.endSession_slot found choice, Device.endSession_slot found' (n := n) choice]
    exact Device.closeOpenWork_over _ _ _ d
  | none =>
    rw [Device.endSession_hold found choice, Device.endSession_hold found' choice]
    exact Device.closeOpenWork_over _ _ _ d

/-- A record counts once as open work: QUEUED, ASSIGNED, or a FOUND scan gap (R9, R10). -/
theorem countP_openWork (l : List Defect) :
    l.countP (·.openWork) = l.countP (·.state.isQueued) + l.countP (·.state.isAssigned) + l.countP (·.openGap) := by
  induction l with
  | nil => rfl
  | cons x l ih =>
    have once : (if x.openWork then 1 else 0)
        = (if x.state.isQueued then 1 else 0) + (if x.state.isAssigned then 1 else 0) + (if x.openGap then 1 else 0) := by
      cases state : x.state <;>
        simp [Defect.openWork, Defect.openGap, state, DefectState.isQueued, DefectState.isAssigned]
    simp only [List.countP_cons, ih, once]
    omega

theorem unloadBytes_found {id : Nat} {x : Reel} (found : d.findReel id = some x) :
    unloadBytes d id = u8 x.state.code ++ u16? x.state.slot? ++ u16 x.deferred ++ flag x.graded := by
  rw [unloadBytes, found]

/-- The reply of an accepted unload, the reel sent to a slot or held. -/
theorem unloadBytes_slot (found : d.findReel r.id = some r) {graded : Bool} {deferred n : Nat}
    (choice : d.returnSlot { r with graded := graded, deferred := deferred } = some n) :
    unloadBytes (d.endSession r.id graded deferred) r.id = u8 6 ++ u16 n ++ u16 deferred ++ flag graded := by
  have sent := Device.findReel_setReel (f := fun x => { x with state := .returning n }) (fun _ => rfl)
    (Device.findReel_results found graded deferred)
  rw [Device.endSession_slot found choice]
  exact unloadBytes_found sent

theorem unloadBytes_hold (found : d.findReel r.id = some r) {graded : Bool} {deferred : Nat}
    (choice : d.returnSlot { r with graded := graded, deferred := deferred } = none) :
    unloadBytes (d.endSession r.id graded deferred) r.id = u8 5 ++ u16 65535 ++ u16 deferred ++ flag graded := by
  have sent := Device.findReel_setReel (f := fun x => { x with state := .hold }) (fun _ => rfl)
    (Device.findReel_results found graded deferred)
  rw [Device.endSession_hold found choice]
  exact unloadBytes_found sent

/-! ### UNLOAD_REEL (R9 to R11) -/

theorem answerUnloadReel_badForce {force : Byte} (above : 1 < force.toNat) :
    answerUnloadReel force d = refuse .badValue d := by
  rw [answerUnloadReel, yesNo_above above]

theorem yesNo_within {b : Byte} (h : b.toNat ≤ 1) : yesNo b = some (decide (b = 1)) := by
  have either : b = 0 ∨ b = 1 := by
    obtain e | e : b.toNat = 0 ∨ b.toNat = 1 := by omega
    · exact .inl (BitVec.eq_of_toNat_eq e)
    · exact .inr (BitVec.eq_of_toNat_eq e)
  obtain rfl | rfl := either <;> rfl

theorem answerUnloadReel_unloaded (none' : d.loadedReel = none) (force : Byte) :
    answerUnloadReel force d = refuse (if 1 < force.toNat then .badValue else .wrongState) d := by
  split
  · exact answerUnloadReel_badForce ‹_›
  · simp only [answerUnloadReel, yesNo_within (Nat.not_lt.mp ‹_›), none']

theorem answerUnloadReel_film (loaded : d.loadedReel = some r) (film : d.tc.state ≠ .empty) {force : Byte}
    (valid : force.toNat ≤ 1) : answerUnloadReel force d = refuse .wrongState d := by
  simp only [answerUnloadReel, yesNo_within valid, loaded, if_pos film]

theorem answerUnloadReel_forced (loaded : d.loadedReel = some r) (found : d.findReel r.id = some r)
    (empty : d.tc.state = .empty) :
    answerUnloadReel 1 d =
      (let e := d.endSession r.id (decide (d.gu.unlocked = 0)) (d.dm.records.countP (·.openWork))
       (e, ⟨.ok, unloadBytes e r.id⟩)) := by
  simp only [answerUnloadReel, show yesNo 1 = some true from rfl, loaded, if_neg (not_not.mpr empty), if_true,
    Device.closeOpenWork_endSession found]

theorem answerUnloadReel_asked (loaded : d.loadedReel = some r) (empty : d.tc.state = .empty) :
    answerUnloadReel 0 d =
      (let q := d.dm.records.countP (·.state.isQueued)
       let a := d.dm.records.countP (·.state.isAssigned)
       let g := d.dm.records.countP (·.openGap)
       let u := d.gu.unlocked
       if 0 < q + a + g + u then refuseWith .openWork (u16 q ++ u16 a ++ u16 g ++ u16 u) d
       else (d.endSession r.id true 0, ⟨.ok, unloadBytes (d.endSession r.id true 0) r.id⟩)) := by
  simp only [answerUnloadReel, show yesNo 0 = some false from rfl, loaded, if_neg (not_not.mpr empty),
    Bool.false_eq_true, if_false, Device.openCounts] <;> rfl

end

/-- Settles O20: the accepted unload ends the session, with or without FORCE, by the slot that R29 chooses. -/
theorem unloadReelEndsTheSession : Obligations.UnloadReelEndsTheSession := by
  refine ⟨fun r s loaded found => ?_, fun force s none' =>
    State.gives_of (.unloadReel force) (fun _ => rfl) rfl (answerUnloadReel_unloaded none' force)⟩
  intro queued assigned gaps unlocked cleared ended accepted
  have accepts {force : Byte} {graded : Bool} {deferred : Nat}
      (e : answerUnloadReel force s.dev = (s.dev.endSession r.id graded deferred,
        ⟨.ok, unloadBytes (s.dev.endSession r.id graded deferred) r.id⟩)) : accepted force graded deferred := by
    refine ⟨fun n choice => State.gives_of (.unloadReel force) (fun _ => rfl) rfl (e.trans ?_),
      fun choice => State.gives_of (.unloadReel force) (fun _ => rfl) rfl (e.trans ?_)⟩
    · rw [unloadBytes_slot found choice, Device.endSession_slot found choice]
      rfl
    · rw [unloadBytes_hold found choice, Device.endSession_hold found choice]
      rfl
  refine ⟨fun force above => State.gives_of (.unloadReel force) (fun _ => rfl) rfl (answerUnloadReel_badForce above),
    fun film force valid =>
      State.gives_of (.unloadReel force) (fun _ => rfl) rfl (answerUnloadReel_film loaded film valid),
    fun empty => accepts ?_, fun empty work => State.gives_of (.unloadReel 0) (fun _ => rfl) rfl ?_,
    fun empty done => accepts ?_⟩
  · rw [answerUnloadReel_forced loaded found empty, countP_openWork]
    rfl
  · exact (answerUnloadReel_asked loaded empty).trans (if_pos work)
  · exact (answerUnloadReel_asked loaded empty).trans (if_neg (Nat.not_lt.mpr (Nat.le_of_eq done)))

end Sys2Proof.Machine
end

section
/-! The condition of a reel, and slots and zones (R14, R18, R24 to R28, R32). -/

namespace Sys2Proof.Machine

section
variable {d : Device} {r : Reel}

/-! ### SET_CONDITION (R14) -/

theorem answerSetCondition_refused {op : ConditionOperands} (h : d.Names op.reelId r)
    (out : DecayClass.ofCode op.cls.toNat = none ∨ yesNo op.permit = none) :
    answerSetCondition op d = refuse .badValue d := by
  simp only [answerSetCondition, withReel_names h]
  obtain none' | none' := out <;> rw [none']
  split
  · cases ‹none = some _›
  · rfl

/-- Without a slot there is nothing to notice. -/
theorem Device.noticeMisplaced_noSlot {x : Reel} {id : Nat} (found : d.findReel id = some x)
    (noSlot : x.state.slot? = none) : d.noticeMisplaced id = d := by
  simp only [Device.noticeMisplaced, found, noSlot]

theorem answerSetCondition_replaced {op : ConditionOperands} (h : d.Names op.reelId r) {cls : DecayClass} {permit : Bool}
    (hasClass : DecayClass.ofCode op.cls.toNat = some cls) (hasPermit : yesNo op.permit = some permit) :
    answerSetCondition op d =
      (let fade := op.fade.map clampDensity
       let e := d.setReel r.id fun x => { x with cls := cls, permit := permit, fadeRef := fade }
       (match r.state.slot? with
          | some n => if d.allowed cls (zoneOf n) then e else e.post .misplaced r.id n
          | none => e,
        ⟨okOr (densityClamped op.fade),
          ({ r with cls := cls, permit := permit, fadeRef := fade } : Reel).bytes d.time.runCounter⟩)) := by
  have found : (d.setReel r.id fun x => { x with cls := cls, permit := permit, fadeRef := op.fade.map clampDensity }).findReel
      r.id = some { r with cls := cls, permit := permit, fadeRef := op.fade.map clampDensity } :=
    Device.findReel_setReel (fun _ => rfl) (Device.findReel_id h.2 ▸ h.2)
  have after (x : Device) (same : x.reels = (d.setReel r.id fun x =>
      { x with cls := cls, permit := permit, fadeRef := op.fade.map clampDensity }).reels) :=
    (Device.findReel_congr same r.id).trans found
  simp only [answerSetCondition, withReel_names h, hasPermit, hasClass, Prod.mk.injEq, Answer.mk.injEq, true_and]
  cases slot : r.state.slot? with
  | none =>
    rw [Device.noticeMisplaced_noSlot found slot, found]
    exact ⟨rfl, rfl⟩
  | some n =>
    have noticed := Device.noticeMisplaced_slot
      (x := { r with cls := cls, permit := permit, fadeRef := op.fade.map clampDensity }) found slot
    refine ⟨noticed, ?_⟩
    rw [after _ (by simp)]
    simp [Device.now]

/-! ### Measured escalation (R18) -/

theorem Device.escalate_none {peak : Nat} (loaded : d.loadedReel = some r)
    (below : escalationClass (max r.shrinkage peak) = none) :
    d.escalate peak = d.setReel r.id fun x => { x with shrinkage := max r.shrinkage peak } := by
  simp only [Device.escalate, loaded, below]

theorem Device.escalate_some {peak : Nat} {cls : DecayClass} (loaded : d.loadedReel = some r)
    (asks : escalationClass (max r.shrinkage peak) = some cls) :
    d.escalate peak =
      (let e := d.setReel r.id fun x => { x with shrinkage := max r.shrinkage peak }
       let raised := (e.setReel r.id fun x => { x with cls := cls, passes := min x.passes (defaultPasses cls) }).post
         .conditionRaised r.id cls.code
       if cls.code ≤ r.cls.code then e
       else if cls = .d ∧ r.permit = false then raised.askEnd .condition else raised) := by
  simp only [Device.escalate, loaded, asks]

end

/-- Settles O21. -/
theorem conditionIsSetAndEscalated : Obligations.ConditionIsSetAndEscalated := by
  refine ⟨fun op r s h => ⟨fun out => State.gives_of (.setCondition op) (fun _ => rfl) rfl
    (answerSetCondition_refused h out), fun cls permit hasClass hasPermit =>
      State.gives_of (.setCondition op) (fun _ => rfl) rfl ?_⟩, fun peak r d loaded => ?_⟩
  · rw [carryOut, answerSetCondition_replaced h hasClass hasPermit, okOr_densityClamped]
    rfl
  · refine ⟨fun below => Device.escalate_none loaded (if_pos (Nat.le_of_lt_succ below)), fun atC below => ?_, fun atD => ?_⟩
    · have asks : escalationClass (max r.shrinkage peak) = some .c := by
        rw [escalationClass, if_neg (Nat.not_le.mpr atC), if_pos (Nat.le_of_lt_succ below)]
      rw [Device.escalate_some loaded asks]
      cases r.cls <;> simp [DecayClass.code, defaultPasses]
    · have asks : escalationClass (max r.shrinkage peak) = some .d := by
        rw [escalationClass, if_neg (by omega), if_neg (by omega)]
      rw [Device.escalate_some loaded asks]
      cases r.cls <;> cases r.permit <;> simp [DecayClass.code, defaultPasses]

/-! ### Slots (R24, R25, R32) -/

section
variable {d : Device}

theorem answerCloseSlot_free {slot : BitVec 16} (top : slot.toNat ≤ 255) (free : d.slot slot.toNat = .free) :
    answerCloseSlot slot d = (d.setSlot slot.toNat .closed, ⟨.ok, []⟩) := by
  rw [answerCloseSlot, withSlot_names top, if_pos free]

theorem answerCloseSlot_refused {slot : BitVec 16} (top : slot.toNat ≤ 255) (busy : d.slot slot.toNat ≠ .free) :
    answerCloseSlot slot d = refuseWith .wrongState (u8 (d.slot slot.toNat).code) d := by
  rw [answerCloseSlot, withSlot_names top, if_neg busy]

theorem answerOpenSlot_refused {slot : BitVec 16} (top : slot.toNat ≤ 255) (opened : d.slot slot.toNat ≠ .closed) :
    answerOpenSlot slot d = refuseWith .wrongState (u8 (d.slot slot.toNat).code) d := by
  rw [answerOpenSlot, withSlot_names top, if_neg opened]

theorem answerOpenSlot_closed {slot : BitVec 16} (top : slot.toNat ≤ 255) (closed : d.slot slot.toNat = .closed) :
    answerOpenSlot slot d = ((d.setSlot slot.toNat .free).offer slot.toNat, ⟨.ok, []⟩) := by
  rw [answerOpenSlot, withSlot_names top, if_pos closed, Device.freeSlot]

/-- Whether the reel that an id names may use a slot (R27). -/
def Device.MayUse (d : Device) (n id : Nat) : Prop :=
  ∃ r, d.findReel id = some r ∧ ((0 < r.deferred ∧ zoneOf n = .workroom) ∨ d.allowed r.cls (zoneOf n) = true)

/-- The test by which an offer looks for a taker. -/
theorem Device.mayUse_iff (d : Device) (n id : Nat) :
    (match d.findReel id with | some r => d.usable r n | none => false) = true ↔ d.MayUse n id := by
  cases found : d.findReel id with
  | none => simp [Device.MayUse, found]
  | some r => simp [Device.MayUse, found, d.usable_iff]

theorem Device.offer_none {n : Nat} (noTaker : ∀ id ∈ d.vault.hold, ¬ d.MayUse n id) : d.offer n = d := by
  have none' : d.taker n = none := by
    rw [Device.taker, List.find?_eq_none]
    exact fun id held => (d.mayUse_iff n id).not.mpr (noTaker id held)
  simp only [Device.offer, none']

/-- The oldest held reel that may use the slot takes it. -/
theorem Device.offer_taken {n id : Nat} {older younger : List Nat} (hold : d.vault.hold = older ++ id :: younger)
    (before : ∀ x ∈ older, ¬ d.MayUse n x) (may : d.MayUse n id) : d.offer n = d.giveSlot id n := by
  have taker : d.taker n = some id := by
    rw [Device.taker, List.find?_eq_some_iff_append]
    refine ⟨(d.mayUse_iff n id).mpr may, older, younger, hold, fun x hx => ?_⟩
    exact (Bool.not_eq_true' _).mpr (Bool.eq_false_iff.mpr ((d.mayUse_iff n x).not.mpr (before x hx)))
  simp only [Device.offer, taker]

theorem Device.setSlot_setSlot (d : Device) (n : Nat) (v w : SlotState) : (d.setSlot n v).setSlot n w = d.setSlot n w := by
  simp only [Device.setSlot]
  congr 2
  ext i
  simp only [Vector.getElem_setIfInBounds]
  split <;> rfl

/-- The held reel that takes a slot leaves the queue, wherever in it the reel stood. -/
theorem Device.giveSlot_hold {id : Nat} {older younger : List Nat} (hold : d.vault.hold = older ++ id :: younger)
    (once : id ∉ older) (n : Nat) :
    d.giveSlot id n =
      ((({ d with vault.hold := older ++ younger } : Device).setSlot n (.reserved id)).setReel id
        fun r => { r with state := .returning n }).post .slotOffered id n := by
  have left : d.vault.hold.erase id = older ++ younger := by
    rw [hold, List.erase_append_right _ once, List.erase_cons_head]
  rw [Device.giveSlot, left]

/-! ### Zone policies (R28) -/

/-- The notices that a replaced policy posts: one for each reel of the class that holds a slot outside it. -/
theorem Device.misplacedWalk_eq {mask : Byte} {cls : DecayClass} {l : List Reel} {e : Device}
    (found : ∀ r ∈ l, e.findReel r.id = some r ∧ r.cls = cls)
    (policy : ∀ z, e.allowed cls z = mask.getLsbD z.code) :
    (l.map (·.id)).foldl (fun d id => d.noticeMisplaced id) e =
      l.foldl (fun d r =>
        match r.state.slot? with
        | some n => if mask.getLsbD (zoneOf n).code then d else d.post .misplaced r.id n
        | none => d) e := by
  induction l generalizing e with
  | nil => rfl
  | cons r l ih =>
    obtain ⟨here, cls'⟩ := found r (by simp)
    have step : e.noticeMisplaced r.id =
        match r.state.slot? with
        | some n => if mask.getLsbD (zoneOf n).code then e else e.post .misplaced r.id n
        | none => e := by
      cases slot : r.state.slot? with
      | none => exact Device.noticeMisplaced_noSlot here slot
      | some n => rw [Device.noticeMisplaced_slot here slot, cls', policy]
    rw [List.map_cons, List.foldl_cons, List.foldl_cons, ← step]
    refine ih (fun x hx => ⟨?_, (found x (by simp [hx])).2⟩) fun z => ?_
    · exact (Device.findReel_congr (by simp) x.id).trans (found x (by simp [hx])).1
    · rw [← policy z, Device.allowed, Device.allowed]
      simp

/-- With distinct ids each record is the one its id finds. -/
theorem Device.findReel_of_nodup (ids : (d.reels.map (·.id)).Nodup) {r : Reel} (hr : r ∈ d.reels) :
    d.findReel r.id = some r := by
  cases found : d.findReel r.id with
  | none =>
    have no : ¬ decide (r.id = r.id) = true := List.find?_eq_none.mp found r hr
    exact absurd (decide_eq_true rfl) no
  | some x => rw [List.inj_on_of_nodup_map ids (Device.findReel_mem found) hr (Device.findReel_id found)]

theorem answerSetZonePolicy_refused {cls mask : Byte} (out : 3 < cls.toNat ∨ 15 < mask.toNat) :
    answerSetZonePolicy cls mask d = refuse .badValue d := by
  simp only [answerSetZonePolicy]
  split
  · rfl
  · rename_i known
    obtain above | above := out
    · match h : cls.toNat, above with
      | _ + 4, _ => rw [h] at known; cases known
    · rw [if_pos (show 16 ≤ mask.toNat from above)]

theorem DecayClass.ofCode_code (cls : DecayClass) : DecayClass.ofCode (BitVec.ofNat 8 cls.code).toNat = some cls := by
  cases cls <;> rfl

theorem Zone.ofCode_code (z : Zone) : Zone.ofCode (BitVec.ofNat 8 z.code).toNat = some z := by cases z <;> rfl

theorem SlotState.code_eq (st : SlotState) :
    (match st with | .free => 0 | .reserved _ => 1 | .occupied _ => 2 | .closed => 3) = st.code := by
  cases st <;> rfl

/-- The mask's four bits are those of the byte that carries it. -/
theorem getLsbD_mask (mask : Byte) (z : Zone) : (mask.setWidth 4).getLsbD z.code = mask.getLsbD z.code := by
  cases z <;> simp [Zone.code]

end

/-- Settles O24. -/
theorem slotsAndZonesAreSet : Obligations.SlotsAndZonesAreSet := by
  refine ⟨fun slot s top => ?_, fun z minutes s => State.gives_of (.setZoneTime _ minutes) (fun _ => rfl) rfl ?_,
    fun cls mask s out => State.gives_of (.setZonePolicy cls mask) (fun _ => rfl) rfl (answerSetZonePolicy_refused out),
    fun cls mask s valid ids => State.gives_of (.setZonePolicy _ mask) (fun _ => rfl) rfl ?_⟩
  · intro n code
    have sameCode : (s.dev.slot n).code = code := (SlotState.code_eq _).symm
    refine ⟨fun free => State.gives_of (.closeSlot slot) (fun _ => rfl) rfl (answerCloseSlot_free top free),
      fun busy => State.gives_of (.closeSlot slot) (fun _ => rfl) rfl
        ((answerCloseSlot_refused top busy).trans (by rw [sameCode]; rfl)),
      fun opened => State.gives_of (.openSlot slot) (fun _ => rfl) rfl
        ((answerOpenSlot_refused top opened).trans (by rw [sameCode]; rfl)), fun closed => ?_⟩
    have opens := answerOpenSlot_closed top closed
    refine ⟨fun noTaker => State.gives_of (.openSlot slot) (fun _ => rfl) rfl (opens.trans ?_),
      fun older id younger hold before may => State.gives_of (.openSlot slot) (fun _ => rfl) rfl (opens.trans ?_)⟩
    · rw [Device.offer_none (d := s.dev.setSlot slot.toNat .free) noTaker]
    · rw [Device.offer_taken (d := s.dev.setSlot slot.toNat .free) hold (fun x hx => (before x hx).2) may,
        Device.giveSlot_hold (d := s.dev.setSlot slot.toNat .free) hold fun hx => (before id hx).1 rfl]
      exact congrArg (fun e : Device => ((e.setReel id fun r => { r with state := .returning n }).post .slotOffered id n,
        (⟨.ok, []⟩ : Answer))) (({ s.dev with vault.hold := older ++ younger } : Device).setSlot_setSlot n .free _)
  · simp only [carryOut, answerSetZoneTime, withZone, Zone.ofCode_code, okOr_above]
  · have walk := Device.misplacedWalk_eq (mask := mask) (cls := cls)
      (l := s.dev.reels.filter fun r => decide (r.cls = cls))
      (e := { s.dev with vault.masks := s.dev.vault.masks.set cls (mask.setWidth 4) })
      (fun r hr => ⟨Device.findReel_of_nodup ids (List.mem_filter.mp hr).1, by simpa using (List.mem_filter.mp hr).2⟩)
      fun z => by
        simp only [Device.allowed, PerClass.get_set, if_true]
        exact getLsbD_mask mask z
    simp only [carryOut, answerSetZonePolicy, DecayClass.ofCode_code, if_neg (Nat.not_le.mpr (Nat.lt_succ_of_le valid)),
      walk]
    rfl

end Sys2Proof.Machine
end

section
/-! The Transport Controller: tension samples, state by state (R48, R58 to R63, R69). -/

namespace Sys2Proof.Machine

section
variable {d : Device} {f t l : Nat}

/-! ### The rules of a sample, one by one (R58, R59, R61, R63) -/

theorem Device.limit_unloaded (none' : d.loadedReel = none) : d.limit = d.tc.settings.limitCap := by
  simp only [Device.limit, none']

theorem Device.limit_loaded {r : Reel} (loaded : d.loadedReel = some r) :
    d.limit = some (match d.tc.settings.limitCap with
      | some cap => min (classLimit r.cls) cap
      | none => classLimit r.cls) := by
  cases cap : d.tc.settings.limitCap <;> simp only [Device.limit, loaded, cap]

theorem Device.sampleLimit_moving (state : d.tc.state = .running ∨ d.tc.state = .winding) (limit : d.limit = some l) :
    d.sampleLimit f t = if l < max f t then d.enterLimiting else d := by
  obtain state | state := state <;> simp only [Device.sampleLimit, limit, state]

theorem Device.sampleLimit_limiting (state : d.tc.state = .limiting) (limit : d.limit = some l) :
    d.sampleLimit f t = if max f t + 10 ≤ l then d.leaveLimiting else d := by
  simp only [Device.sampleLimit, limit, state]

theorem Device.sampleLimit_relaxing (state : d.tc.state = .relaxing) : d.sampleLimit f t = d := by
  simp only [Device.sampleLimit]
  split
  · rfl
  · simp only [state]

theorem Device.sampleIntegrator_limiting (state : d.tc.state = .limiting) :
    d.sampleIntegrator =
      if d.tc.settings.top ≤ d.tc.integrator + 30 then ({ d with tc.integrator := d.tc.settings.top } : Device).trip
      else { d with tc.integrator := d.tc.integrator + 30 } := by
  simp only [Device.sampleIntegrator, state]
  split
  · rw [if_pos (by omega), Nat.min_eq_left (by omega)]
  · rw [if_neg (by omega), Nat.min_eq_right (by omega)]

theorem Device.sampleIntegrator_other (state : d.tc.state ≠ .limiting) :
    d.sampleIntegrator = { d with tc.integrator := d.tc.integrator - 1 } := by
  simp only [Device.sampleIntegrator]
  split
  · exact absurd ‹_› state
  all_goals rfl

theorem Device.sampleResume_waits (waits : d.tc.state ≠ .relaxing ∨ ¬ (d.tc.relaxExpired ∧ f < 30 ∧ t < 30)) :
    d.sampleResume f t = d := by
  simp only [Device.sampleResume]
  split
  · exact if_neg (waits.resolve_left (not_not.mpr ‹_›))
  all_goals rfl

theorem Device.sampleResume_resumes (state : d.tc.state = .relaxing) (expired : d.tc.relaxExpired = true) (low : f < 30)
    (low' : t < 30) :
    d.sampleResume f t =
      { d with
        tc.state := (d.tc.remembered.getD .running).state, tc.remembered := none, tc.integrator := 0
        tc.relaxExpired := false, tc.watch := .armed } := by
  simp only [Device.sampleResume, state]
  exact if_pos ⟨expired, low, low'⟩

/-- The slip watch's table (R63). -/
theorem Device.sampleSlip_moving (state : d.tc.state = .running ∨ d.tc.state = .winding) :
    d.sampleSlip f t =
      (let excess := d.tc.settings.slipMargin < max f t - min f t
       { d with
        tc.watch := if excess then (if d.tc.watch = .armed then .timing else d.tc.watch)
          else if d.tc.watch = .timing ∨ d.tc.watch = .spent then .armed else d.tc.watch
        tc.slipDue := if excess then (if d.tc.watch = .armed then some (d.now + 100) else d.tc.slipDue)
          else if d.tc.watch = .timing then none else d.tc.slipDue }) := by
  have table : d.sampleSlip f t =
      if d.tc.settings.slipMargin < max f t - min f t then
        match d.tc.watch with
        | .armed => { d with tc.watch := .timing, tc.slipDue := some (d.now + 100) }
        | .timing | .spent | .inactive => d
      else
        match d.tc.watch with
        | .timing => { d with tc.watch := .armed, tc.slipDue := none }
        | .spent => { d with tc.watch := .armed }
        | .armed | .inactive => d := by
    rw [← difference_eq]
    obtain state | state := state <;> simp only [Device.sampleSlip, state] <;> rfl
  rw [table]
  by_cases excess : d.tc.settings.slipMargin < max f t - min f t <;> cases watch : d.tc.watch <;>
    simp only [excess, if_true, if_false, reduceCtorEq, or_true, or_false] <;> rw [← watch]

/-- An ARMED watch, as a resumption or the end of the crawl leaves it. -/
theorem Device.sampleSlip_armed (state : d.tc.state = .running ∨ d.tc.state = .winding) (armed : d.tc.watch = .armed) :
    d.sampleSlip f t =
      (let excess := d.tc.settings.slipMargin < max f t - min f t
       { d with
        tc.watch := if excess then .timing else .armed
        tc.slipDue := if excess then some (d.now + 100) else d.tc.slipDue }) := by
  rw [Device.sampleSlip_moving state]
  by_cases excess : d.tc.settings.slipMargin < max f t - min f t <;> simp [excess, armed]

theorem Device.sampleSlip_still (state : d.tc.state ≠ .running ∧ d.tc.state ≠ .winding) : d.sampleSlip f t = d := by
  simp only [Device.sampleSlip]
  split
  · exact absurd ‹_› state.1
  · exact absurd ‹_› state.2
  all_goals rfl

theorem Remembered.state_moving (m : Remembered) : m.state = .running ∨ m.state = .winding := by
  cases m
  · exact .inr rfl
  · exact .inl rfl

/-! ### Whole samples, state by state -/

/-- The sample is stored before the rules look at it (R48). -/
def Device.stored (f t : Nat) (d : Device) : Device := { d with tc.feed := f, tc.takeUp := t }

theorem Device.sample_eq (f t : Nat) (d : Device) :
    d.sample f t = ((((d.stored f t).sampleLimit f t).sampleIntegrator).sampleResume f t).sampleSlip f t := rfl

/-- In motion, within the limit: the integrator falls and the slip watch moves. -/
theorem Device.sample_within (state : d.tc.state = .running ∨ d.tc.state = .winding) (limit : d.limit = some l)
    (within : max f t ≤ l) :
    d.sample f t = ({ d.stored f t with tc.integrator := d.tc.integrator - 1 } : Device).sampleSlip f t := by
  have other : d.tc.state ≠ .limiting ∧ d.tc.state ≠ .relaxing := by obtain state | state := state <;> simp [state]
  rw [Device.sample_eq, Device.sampleLimit_moving (d := d.stored f t) state limit, if_neg (Nat.not_lt.mpr within),
    Device.sampleIntegrator_other (d := d.stored f t) other.1]
  exact congrArg (Device.sampleSlip f t) (Device.sampleResume_waits (.inl other.2))

/-- In motion, above the limit: LIMITING is entered, and the rest of the sample is taken there. -/
theorem Device.sample_above (state : d.tc.state = .running ∨ d.tc.state = .winding) (limit : d.limit = some l)
    (above : l < max f t) : d.sample f t = d.enterLimiting.sample f t := by
  have inside : d.enterLimiting.limit = some l := limit
  rw [Device.sample_eq, Device.sample_eq, Device.sampleLimit_moving (d := d.stored f t) state limit, if_pos above,
    Device.sampleLimit_limiting (d := d.enterLimiting.stored f t) rfl inside, if_neg (by omega)]
  rfl

/-- At the crawl, above the limit less 10 cN: the integrator rises, and may trip. -/
theorem Device.sample_limiting (state : d.tc.state = .limiting) (limit : d.limit = some l) (above : l < max f t + 10) :
    d.sample f t =
      ((if d.tc.settings.top ≤ d.tc.integrator + 30 then
        ({ d.stored f t with tc.integrator := d.tc.settings.top } : Device).trip
      else { d.stored f t with tc.integrator := d.tc.integrator + 30 }).sampleResume f t).sampleSlip f t := by
  rw [Device.sample_eq, Device.sampleLimit_limiting (d := d.stored f t) state limit, if_neg (by omega),
    Device.sampleIntegrator_limiting (d := d.stored f t) state]
  rfl

/-- Below the top the integrator rises by 30, no more. -/
theorem Device.sample_rises (state : d.tc.state = .limiting) (limit : d.limit = some l) (above : l < max f t + 10)
    (below : d.tc.integrator + 30 < d.tc.settings.top) :
    d.sample f t = { d.stored f t with tc.integrator := d.tc.integrator + 30 } := by
  have still (e : Device) (same : e.tc.state = .limiting) : (e.sampleResume f t).sampleSlip f t = e := by
    rw [Device.sampleResume_waits (.inl (by simp [same])), Device.sampleSlip_still (by simp [same])]
  rw [Device.sample_limiting state limit above, if_neg (by omega)]
  exact still _ state

/-- At the top TC trips; where that leaves it the rest of the sample does nothing. -/
theorem Device.sample_trips (state : d.tc.state = .limiting) (limit : d.limit = some l) (above : l < max f t + 10)
    (top : d.tc.settings.top ≤ d.tc.integrator + 30) {e : Device}
    (trip : ({ d.stored f t with tc.integrator := d.tc.settings.top } : Device).trip = e)
    (left : e.tc.state = .stopped ∨ e.tc.state = .fault ∨ e.tc.state = .relaxing ∧ e.tc.relaxExpired = false) :
    d.sample f t = e := by
  rw [Device.sample_limiting state limit above, if_pos top, trip]
  have waits : e.tc.state ≠ .relaxing ∨ ¬ (e.tc.relaxExpired ∧ f < 30 ∧ t < 30) := by
    obtain left | left | ⟨-, fresh⟩ := left
    · simp [left]
    · simp [left]
    · simp [fresh]
  rw [Device.sampleResume_waits waits, Device.sampleSlip_still]
  obtain left | left | ⟨left, -⟩ := left <;> simp [left]

/-- At or below the limit less 10 cN the crawl ends, and the sample moves the slip watch (log 16). -/
theorem Device.sample_leaves (state : d.tc.state = .limiting) (limit : d.limit = some l) (within : max f t + 10 ≤ l)
    {m : Remembered} (remembered : d.tc.remembered = some m) :
    d.sample f t =
      ({ d.stored f t with
        tc.state := m.state, tc.remembered := none, tc.strainDue := none, tc.strainLine := false, tc.watch := .armed
        tc.integrator := d.tc.integrator - 1 } : Device).sampleSlip f t := by
  have left : (d.stored f t).leaveLimiting =
      { d.stored f t with
        tc.state := m.state, tc.remembered := none, tc.strainDue := none, tc.strainLine := false, tc.watch := .armed } := by
    simp only [Device.leaveLimiting, Device.stored, remembered, Option.getD_some]
  have moving : m.state ≠ .limiting ∧ m.state ≠ .relaxing := by cases m <;> simp [Remembered.state]
  rw [Device.sample_eq, Device.sampleLimit_limiting (d := d.stored f t) state limit, if_pos within, left,
    Device.sampleIntegrator_other moving.1]
  exact congrArg (Device.sampleSlip f t) (Device.sampleResume_waits (.inl moving.2))

/-- In RELAXING a sample that does not resume is stored and lowers the integrator. -/
theorem Device.sample_relaxing (state : d.tc.state = .relaxing) (waits : d.tc.relaxExpired = false ∨ 30 ≤ f ∨ 30 ≤ t) :
    d.sample f t = { d.stored f t with tc.integrator := d.tc.integrator - 1 } := by
  have not : ¬ (d.tc.relaxExpired ∧ f < 30 ∧ t < 30) := by
    rintro ⟨expired, low, low'⟩
    obtain fresh | high | high := waits
    · simp [fresh] at expired
    · omega
    · omega
  rw [Device.sample_eq, Device.sampleLimit_relaxing (d := d.stored f t) state,
    Device.sampleIntegrator_other (d := d.stored f t) (by simp [Device.stored, state])]
  have still (e : Device) (same : e.tc.state = .relaxing) (expired : e.tc.relaxExpired = d.tc.relaxExpired) :
      (e.sampleResume f t).sampleSlip f t = e := by
    rw [Device.sampleResume_waits (.inr (expired ▸ not)), Device.sampleSlip_still (by simp [same])]
  exact still _ state rfl

/-- A sample of low tensions resumes the remembered state and moves the slip watch (log 16). -/
theorem Device.sample_resumes (state : d.tc.state = .relaxing) (expired : d.tc.relaxExpired = true) (low : f < 30)
    (low' : t < 30) {m : Remembered} (remembered : d.tc.remembered = some m) :
    d.sample f t =
      ({ d.stored f t with
        tc.state := m.state, tc.remembered := none, tc.integrator := 0, tc.relaxExpired := false
        tc.watch := .armed } : Device).sampleSlip f t := by
  rw [Device.sample_eq, Device.sampleLimit_relaxing (d := d.stored f t) state,
    Device.sampleIntegrator_other (d := d.stored f t) (by simp [Device.stored, state])]
  have resumed := Device.sampleResume_resumes (d := { d.stored f t with tc.integrator := d.tc.integrator - 1 }) state
    expired low low'
  rw [show ({ d.stored f t with tc.integrator := d.tc.integrator - 1 } : Device).tc.remembered = some m from remembered]
    at resumed
  exact congrArg (Device.sampleSlip f t) resumed

/-! ### A trip (R56, R60, R61) -/

theorem Device.trip_faults (none' : d.tc.retryRemains = false) : d.trip = d.enterFault .strain := by
  rw [Device.trip, if_neg (ne_true_of_eq_false none')]

theorem Device.trip_relaxes (retry : d.tc.retryRemains = true) (going : d.tc.pendingEnd = none) :
    d.trip =
      { d with
        tc.retries := min 255 (d.tc.retries + 1), tc.state := .relaxing, tc.strainDue := none, tc.strainLine := false
        tc.relaxExpired := false, tc.relaxDue := some (d.now + 1000 * d.tc.settings.relaxTime) } := by
  simp only [Device.trip, if_pos retry, Device.enterRelaxing, going, bump8_eq_min]
  rfl

/-- A pending end is carried out at once, with no relax timer set. -/
theorem Device.trip_ends (retry : d.tc.retryRemains = true) {cause : PendingEnd}
    (pending : d.tc.pendingEnd = some cause) :
    d.trip =
      ({ d with
        tc := { ({ d.tc with
            retries := min 255 (d.tc.retries + 1), relaxExpired := false } : Transport).passOver .stopped with
          aligned := false } } : Device).post .passEnded d.loadedId cause.cause.code := by
  simp only [Device.trip, if_pos retry, Device.enterRelaxing, pending, bump8_eq_min, Device.endRelaxing_eq_post]
  rfl

end

/-! ### The commands -/

/-- Settles O26. -/
theorem sampleWhileMovingOrAtRest : Obligations.SampleWhileMovingOrAtRest := by
  refine ⟨⟨fun d => ⟨Device.limit_unloaded, fun r loaded => ?_⟩, fun feed takeUp limit s state limited => ?_⟩,
    fun feed takeUp s => ⟨?_, ?_, ?_⟩⟩
  · rw [Device.limit_loaded loaded]
    cases r.cls <;> rfl
  · refine ⟨fun low low' => ?_, fun above => ⟨fun below => ?_, ?_⟩⟩
    · exact s.next_dev ((Device.sample_within state limited (max_le low low')).trans (Device.sampleSlip_moving state))
    · have entered : s.dev.enterLimiting.limit = some limit := limited
      have sampled := (Device.sample_above state limited above).trans
        (Device.sample_rises rfl entered (by omega) below)
      refine s.next_dev (sampled.trans ?_)
      obtain state | state := state <;> simp only [Device.enterLimiting, state] <;> rfl
    · refine s.next_dev ((Device.sample_above state limited above).trans ?_)
      obtain state | state := state <;> simp only [Device.enterLimiting, state] <;> rfl
  · exact fun state => s.next_dev (Device.sample_atRest _ _ state)
  · exact fun state waits => s.next_dev (Device.sample_relaxing state waits)
  · intro m state expired low low' remembered
    refine s.next_dev ((Device.sample_resumes state expired low low' remembered).trans
      ((Device.sampleSlip_armed m.state_moving rfl).trans ?_))
    cases m <;> rfl

/-- Settles O27. -/
theorem sampleWhileLimiting : Obligations.SampleWhileLimiting := by
  intro feed takeUp limit s state limited f t tc now excess top retry
  have remains : s.dev.tc.retryRemains = true ↔ retry := by
    simp only [Transport.retryRemains, retry, tc]
    cases s.dev.tc.settings.retryPolicy <;> simp
  refine ⟨fun m remembered low low' => ?_, fun above => ⟨fun below => ?_, fun atTop some' going => ?_,
    fun cause atTop some' pending => ?_, fun atTop none' => ?_⟩⟩
  · refine s.next_dev ((Device.sample_leaves (f := f) (t := t) state limited (by omega) remembered).trans
      ((Device.sampleSlip_armed m.state_moving rfl).trans ?_))
    cases m <;> rfl
  · exact s.next_dev (Device.sample_rises state limited above below)
  · exact s.next_dev (Device.sample_trips state limited above atTop
      (Device.trip_relaxes (d := { s.dev.stored f t with tc.integrator := top }) (remains.mpr some') going)
      (.inr (.inr ⟨rfl, rfl⟩)))
  · refine s.next_dev (Device.sample_trips state limited above atTop
      ((Device.trip_ends (d := { s.dev.stored f t with tc.integrator := top }) (remains.mpr some') pending).trans ?_)
      (.inl rfl))
    cases cause <;> rfl
  · refine s.next_dev (Device.sample_trips state limited above atTop
      (Device.trip_faults (d := { s.dev.stored f t with tc.integrator := top })
        (Bool.eq_false_iff.mpr (remains.not.mpr none'))) (.inr (.inl rfl)))

end Sys2Proof.Machine
end

section
/-! The Transport Controller: the film-present line, entry to FAULT, deadlines, the start of a pass, and the settings
(R49 to R54, R57, R61, R62, R64, R65, R67, R68). -/

namespace Sys2Proof.Machine

section
variable {d : Device} {r : Reel}

/-! ### The film-present line (R50, R52) -/

theorem Device.loadedReel_setTransport (t : Transport) : ({ d with tc := t } : Device).loadedReel = d.loadedReel := rfl

theorem Device.filmRises_high (high : d.tc.filmPresent = true) : d.filmRises = d := if_pos high

theorem Device.filmRises_loaded (low : d.tc.filmPresent = false) (empty : d.tc.state = .empty)
    (loaded : d.loadedReel.isSome) :
    d.filmRises = ({ d with tc.filmPresent := true } : Device).startThreading := by
  obtain ⟨r, loaded⟩ := Option.isSome_iff_exists.mp loaded
  simp only [Device.filmRises, low, empty, Device.loadedReel_setTransport, loaded, Bool.false_eq_true, if_false]

theorem Device.filmRises_unloaded (low : d.tc.filmPresent = false) (empty : d.tc.state = .empty)
    (none' : d.loadedReel = none) :
    d.filmRises = ({ d with tc.filmPresent := true } : Device).post .threadResult 0 1 := by
  simp only [Device.filmRises, low, empty, Device.loadedReel_setTransport, none', Bool.false_eq_true, if_false, threadNoReel]

theorem Device.filmRises_noted (low : d.tc.filmPresent = false) (state : d.tc.state ≠ .empty) :
    d.filmRises = { d with tc.filmPresent := true } := by
  simp only [Device.filmRises, low, Bool.false_eq_true, if_false]
  split
  · exact absurd ‹_› state
  all_goals rfl

theorem Device.filmFalls_low (low : d.tc.filmPresent = false) : d.filmFalls = d :=
  if_neg (ne_true_of_eq_false low)

theorem Device.loadedId_eq (loaded : d.loadedReel = some r) : d.loadedId = r.id := by
  rw [Device.loadedId, loaded]
  rfl

theorem Device.filmFalls_threading (high : d.tc.filmPresent = true) (state : d.tc.state = .threading)
    (loaded : d.loadedReel = some r) :
    d.filmFalls =
      ({ d with tc.filmPresent := false, tc.state := .empty, tc.threadingDue := none } : Device).post .threadResult r.id 2 := by
  simp only [Device.filmFalls, high, state, if_true, Device.loadedId, Device.loadedReel_setTransport, loaded,
    Option.map_some, Option.getD_some, threadAborted]

theorem Device.filmFalls_moving (high : d.tc.filmPresent = true)
    (state : d.tc.state = .running ∨ d.tc.state = .winding ∨ d.tc.state = .limiting ∨ d.tc.state = .relaxing) :
    d.filmFalls = ({ d with tc.filmPresent := false } : Device).enterFault .break := by
  obtain state | state | state | state := state <;> simp only [Device.filmFalls, high, state, if_true]

/-! ### Entry to FAULT (R57, R65, R67) -/

/-- What a fault changes before a pass in progress ends: outputs, deadlines, incident and cause (R65). -/
def Device.faultAlarm (cause : FaultCause) (d : Device) : Device :=
  ({ d with
    tc.state := .fault, tc.faultCause := some cause, tc.aligned := false, tc.strainLine := false
    tc.threadingDue := none, tc.relaxDue := none, tc.strainDue := none, tc.slipDue := none, tc.watch := .inactive
    tc.incident := some (d.tc.incident.getD (d.incidentNow cause)), tc.incidentCount := bump8 d.tc.incidentCount }
      : Device).post .transportFault cause.code d.head

theorem Device.enterFault_noPass (cause : FaultCause) (none' : d.tc.pass = none) : d.enterFault cause = d.faultAlarm cause := by
  simp only [Device.enterFault, Device.post, none', Option.isSome_none, Bool.false_eq_true, if_false, Device.faultAlarm]

/-- A pass in progress ends with the fault (R57). -/
theorem Device.enterFault_pass (cause : FaultCause) (pass : d.tc.pass.isSome) :
    d.enterFault cause =
      ({ d.faultAlarm cause with
        tc.pass := none, tc.pendingEnd := none, tc.remembered := none, tc.direction := none
        tc.target := none } : Device).post .passEnded d.loadedId 4 := by
  simp only [Device.enterFault, Device.post, pass, if_true, Device.faultAlarm, Device.endPass, Transport.passOver]
  rfl

theorem Device.head_eq {p : Tracker} (pt : d.pt = some p) : d.head = p.head := by
  rw [Device.head, pt]
  rfl

end

/-- Settles O28. -/
theorem filmPresentLineAndFaultEntry : Obligations.FilmPresentLineAndFaultEntry := by
  refine ⟨fun s => ⟨fun high => s.next_dev (Device.filmRises_high high), fun low => ⟨fun empty loaded =>
      s.next_dev (Device.filmRises_loaded low empty loaded), fun empty none' =>
      s.next_dev (Device.filmRises_unloaded low empty none'), fun state => s.next_dev (Device.filmRises_noted low state)⟩,
    fun low => s.next_dev (Device.filmFalls_low low), fun high => ⟨fun empty => s.next_dev ?_, fun r threading loaded =>
      s.next_dev (Device.filmFalls_threading high threading loaded), fun stopped => s.next_dev ?_,
      fun fault => s.next_dev ?_, fun moving => s.next_dev (Device.filmFalls_moving high moving)⟩⟩,
    fun cause r p d loaded pt => ?_⟩
  · simp only [Device.filmFalls, high, empty, if_true]
  · simp only [Device.filmFalls, high, stopped, if_true]
  · simp only [Device.filmFalls, high, fault, if_true]
  · intro incident faulted
    have now : d.incidentNow cause = incident := by simp only [Device.incidentNow, Device.head, pt]; rfl
    have alarm : d.faultAlarm cause = faulted := by
      simp only [Device.faultAlarm, now, Device.head_eq pt, bump8_eq_min, faulted]
    refine ⟨fun none' => (Device.enterFault_noPass cause none').trans alarm, fun pass => ?_⟩
    rw [Device.enterFault_pass cause pass, alarm, Device.loadedId_eq loaded]

/-! ### Deadlines (R44, R51, R61, R62, R64) -/

section
variable {d : Device} {r : Reel}

theorem Device.reached_some {due : Nat} {deadline : Option Nat} (e : deadline = some due) :
    d.reached deadline = true ↔ due ≤ d.time.runCounter := by
  simp [Device.reached, e]

/-- A deadline that is absent, or that the run counter has not reached, is not reached (R44). -/
theorem Device.reached_early {deadline : Option Nat} (early : ∀ due, deadline = some due → d.time.runCounter < due) :
    d.reached deadline = false := by
  cases e : deadline with
  | none => rfl
  | some due => simpa [Device.reached] using early due e

theorem Transport.threadCheck_iff (t : Transport) :
    t.threadCheck = true ↔ t.filmPresent = true ∧ 20 ≤ t.feed ∧ t.feed ≤ 200 ∧ 20 ≤ t.takeUp ∧ t.takeUp ≤ 200 := by
  simp [Transport.threadCheck]

theorem Device.threadingExpires_reached (loaded : d.loadedReel = some r) (state : d.tc.state = .threading)
    (reached : d.reached d.tc.threadingDue = true) :
    d.threadingExpires =
      if d.tc.filmPresent = true ∧ 20 ≤ d.tc.feed ∧ d.tc.feed ≤ 200 ∧ 20 ≤ d.tc.takeUp ∧ d.tc.takeUp ≤ 200 then
        ({ d with tc.state := .stopped, tc.aligned := true, tc.threadingDue := none } : Device).post .threadResult r.id 0
      else d.enterFault .thread := by
  rw [Device.threadingExpires, if_pos ⟨state, reached⟩, Device.loadedId_eq loaded, threadOk]
  simp only [Transport.threadCheck_iff]

/-- What slip persistence makes of a reached deadline: the finding, then the fault or the notice. -/
theorem Device.slipExpires_reached {head : Nat} (loaded : d.loadedReel = some r) (headed : d.pt.map (·.head) = some head)
    (watch : d.tc.watch = .timing) (reached : d.reached d.tc.slipDue = true) :
    d.slipExpires =
      (let found := ({ d with tc.slipDue := none } : Device).finding
        { kind := .splice, frame := head, severity := 5
          detail := max d.tc.feed d.tc.takeUp - min d.tc.feed d.tc.takeUp, origin := .transport }
       match d.tc.settings.slipAction with
        | .stop => found.enterFault .slip
        | .report => ({ found with tc.watch := .spent } : Device).post .slipSeen r.id head) := by
  have atHead (e : Device) (same : e.pt = d.pt) : e.head = head := by
    rw [Device.head, same, headed]
    rfl
  have id (e : Device) (same : e.reels = d.reels) : e.loadedId = r.id :=
    Device.loadedId_eq ((Device.loadedReel_congr same).trans loaded)
  rw [Device.slipExpires, if_pos ⟨watch, reached⟩]
  simp only [difference_eq, atHead { d with tc.slipDue := none } rfl, Device.finding_frame]
  cases d.tc.settings.slipAction with
  | stop => rfl
  | report =>
    simp only
    rw [id _ (by simp), atHead _ (by simp)]

end

/-- Settles O29. -/
theorem transportTimersExpire : Obligations.TransportTimersExpire := by
  refine fun r s loaded => ⟨fun due state set late => s.next_dev (Device.threadingExpires_reached loaded state
      ((Device.reached_some set).mpr late)), fun due state set late => s.next_dev ?_,
    fun due head state set late headed => s.next_dev ?_, fun due head watch set late headed => s.next_dev ?_,
    fun early => s.next_dev ?_, fun early => s.next_dev ?_, fun early => s.next_dev ?_, fun early => s.next_dev ?_⟩
  · rw [Device.relaxExpires, if_pos ⟨state, (Device.reached_some set).mpr late⟩]
  · have atHead : s.dev.head = head := by rw [Device.head, headed]; rfl
    rw [Device.strainExpires, if_pos ⟨state, (Device.reached_some set).mpr late⟩, Device.loadedId_eq loaded, atHead]
  · exact Device.slipExpires_reached loaded headed watch ((Device.reached_some set).mpr late)
  · rw [Device.threadingExpires, Device.reached_early early]
    exact if_neg (by simp)
  · rw [Device.relaxExpires, Device.reached_early early]
    exact if_neg (by simp)
  · rw [Device.strainExpires, Device.reached_early early]
    exact if_neg (by simp)
  · rw [Device.slipExpires, Device.reached_early early]
    exact if_neg (by simp)

end Sys2Proof.Machine
end

section
/-! The start of a pass and the transport's settings (R16, R17, R49, R53, R54, R68). -/

namespace Sys2Proof.Machine

theorem clampNat_eq_ite {lo hi : Nat} (h : lo ≤ hi) (n : Nat) :
    clampNat lo hi n = if n < lo then lo else if hi < n then hi else n := by
  simp only [clampNat]
  split_ifs <;> omega

/-- The status of continuous values, OK where each was given in range. -/
theorem okOr_not (given : Prop) [Decidable given] : okOr (decide (¬ given)) = if given then .ok else .okClamped := by
  by_cases h : given <;> simp [okOr, h]

section
variable {d : Device} {r : Reel} {p : Tracker}

/-! ### The start of a pass (R53, R54) -/

/-- TC starts at once at the start frame with alignment good, or on a leg to it; alignment lost, backward past one
frame (R54). -/
theorem Device.startLeg_eq (pt : d.pt = some { p with last := none }) (a : Nat) :
    d.startLeg a =
      (let back : Bool := !d.tc.aligned || decide (a < p.head)
       let target := if d.tc.aligned then a else min a (p.head - 1)
       let run : Bool := d.tc.aligned && decide (p.head = a)
       { d with
        tc.state := if run then .running else .winding
        tc.direction := if run then none else some (if back then .backward else .forward)
        tc.target := if run then none else some target
        pt := some { p with last := none, count := if back then 0 else p.count } }) := by
  have head : d.head = p.head := Device.head_eq (p := { p with last := none }) pt
  cases aligned : d.tc.aligned with
  | false => simp [Device.startLeg, Device.startBackward, Device.setTracker, aligned, head, pt]
  | true =>
    obtain before | rfl | after := Nat.lt_trichotomy p.head a
    · simp [Device.startLeg, aligned, head, before, Nat.ne_of_lt before, Nat.lt_asymm before, ← pt]
    · simp [Device.startLeg, aligned, head, ← pt]
    · simp [Device.startLeg, Device.startBackward, Device.setTracker, aligned, head, after, Nat.ne_of_gt after,
        Nat.lt_asymm after, pt]

theorem Reel.spendPass_eq (r : Reel) :
    r.spendPass = { r with passes := r.passes - 1, passTotal := min 65535 (r.passTotal + 1) } := by
  rw [Reel.spendPass, bump16_eq_min]

theorem Device.startPass_eq (pt : d.pt = some p) (pass : PassRecord) :
    d.startPass r pass =
      (let back : Bool := !d.tc.aligned || decide (pass.first < p.head)
       let target := if d.tc.aligned then pass.first else min pass.first (p.head - 1)
       let run : Bool := d.tc.aligned && decide (p.head = pass.first)
       { d.setReel r.id (fun x => { x with passes := x.passes - 1, passTotal := min 65535 (x.passTotal + 1) }) with
        tc.pass := some pass, tc.retries := 0, tc.pendingEnd := none, tc.watch := .armed
        tc.state := if run then .running else .winding
        tc.direction := if run then none else some (if back then .backward else .forward)
        tc.target := if run then none else some target
        capstan := 0, cu.gaps := 0
        pt := some { p with last := none, count := if back then 0 else p.count } }) := by
  rw [Device.startPass, funext Reel.spendPass_eq, Device.startLeg_eq (p := p) (by simp [Device.setTracker, pt])]
  rfl

/-! ### RUN_PASS (R16, R17, R53) -/

variable {first last : FrameRef} {speed : Byte} {a b : Nat}

theorem answerRunPass_notStopped (state : d.tc.state ≠ .stopped) :
    answerRunPass first last speed d = refuse .wrongState d := if_pos state

theorem answerRunPass_first {e : Status} (state : d.tc.state = .stopped) (unresolved : d.resolve first = .error e) :
    answerRunPass first last speed d = refuse e d := by
  rw [answerRunPass, if_neg (not_not.mpr state), withFrame_error unresolved]

theorem answerRunPass_last {e : Status} (state : d.tc.state = .stopped) (start : d.resolve first = .ok a)
    (unresolved : d.resolve last = .error e) : answerRunPass first last speed d = refuse e d := by
  rw [answerRunPass, if_neg (not_not.mpr state), withFrame_ok start, withFrame_error unresolved]

/-- With both references resolved the remaining checks are made in order. -/
theorem answerRunPass_resolved (state : d.tc.state = .stopped) (start : d.resolve first = .ok a)
    (toLast : d.resolve last = .ok b) (loaded : d.loadedReel = some r) :
    answerRunPass first last speed d =
      if b < a then refuse .badValue d
      else if d.tc.aligned = false ∧ d.head = 0 then refuse .wrongState d
      else if r.mayPass then
        (d.startPass r
          { first := a, last := b, speed := clampNat 1 24 speed.toNat, number := r.spendPass.passTotal },
          ⟨okOr (decide (clampNat 1 24 speed.toNat ≠ speed.toNat)),
            u16 a ++ u16 b ++ u8 (clampNat 1 24 speed.toNat) ++ u16 r.spendPass.passTotal⟩)
      else refuse .condition d := by
  rw [answerRunPass, if_neg (not_not.mpr state), withFrame_ok start, withFrame_ok toLast]
  simp only [loaded]
  rfl

theorem Reel.mayPass_iff (r : Reel) : r.mayPass = true ↔ 1 ≤ r.passes ∧ (r.cls ≠ .d ∨ r.permit = true) := by
  simp [Reel.mayPass]

end

/-- Settles O30. -/
theorem runPassStartsPass : Obligations.RunPassStartsPass := by
  intro first last speed s c
  have gives {d : Device} {status : Status} {body : List Byte} :=
    State.gives_of (s := s) (c := c) (d := d) (status := status) (body := body) (.runPass first last speed) (fun _ => rfl) rfl
  refine ⟨fun state => gives (answerRunPass_notStopped state), fun state =>
    ⟨fun e unresolved => gives (answerRunPass_first state unresolved), fun a start =>
      ⟨fun e unresolved => gives (answerRunPass_last state start unresolved), fun b r p toLast loaded pt => ?_⟩⟩⟩
  have resolved := answerRunPass_resolved (speed := speed) state start toLast loaded
  rw [Device.head_eq pt] at resolved
  refine ⟨fun before => gives (resolved.trans (if_pos before)), fun ordered => ?_⟩
  rw [if_neg (Nat.not_lt.mpr ordered)] at resolved
  refine ⟨fun lost => gives (resolved.trans (if_pos lost)), fun placed => ?_⟩
  have notLost : ¬ (s.dev.tc.aligned = false ∧ p.head = 0) := by
    rintro ⟨lost, zero⟩
    obtain good | head := placed
    · rw [good] at lost
      cases lost
    · exact head zero
  rw [if_neg notLost] at resolved
  refine ⟨fun barred => gives (resolved.trans (if_neg ?_)), fun allowance condition => gives (resolved.trans ?_)⟩
  · rw [r.mayPass_iff]
    rintro ⟨allowance, condition⟩
    obtain none' | ⟨cls, permit⟩ := barred
    · omega
    · simp [cls, permit] at condition
  · rw [if_pos (r.mayPass_iff.mpr ⟨allowance, condition⟩), Device.startPass_eq pt, clampNat_eq_ite (by decide),
      Reel.spendPass_eq]
    exact Prod.ext rfl (congrArg (Answer.mk · _) (okOr_not _))

/-! ### SET_TRANSPORT and CLEAR_INCIDENT (R49, R68) -/

/-- The settings stored, each continuous value brought into range; a cap of 0 means none (R49). -/
theorem storedTransport_eq (op : TransportOperands) (policy : RetryPolicy) (action : SlipAction) :
    storedTransport op policy action =
      (let range (lo hi n : Nat) : Nat := if n < lo then lo else if hi < n then hi else n
       { threadingTime := range 1 30 op.threadingTime.toNat, faultTime := range 10 2000 op.faultTime.toNat
         retryPolicy := policy, relaxTime := range 1 600 op.relaxTime.toNat
         slipMargin := range 20 400 op.slipMargin.toNat, slipAction := action
         limitCap := if op.limitCap.toNat = 0 then none else some (range 20 400 op.limitCap.toNat) }) := by
  have none' : op.limitCap = 0 ↔ op.limitCap.toNat = 0 := by
    rw [← BitVec.toNat_inj]
    rfl
  simp only [storedTransport, clampNat_eq_ite, none', show (1 : Nat) ≤ 30 by decide, show (10 : Nat) ≤ 2000 by decide,
    show (1 : Nat) ≤ 600 by decide, show (20 : Nat) ≤ 400 by decide]

/-- Settles O31. -/
theorem setTransportReplacesSettings : Obligations.SetTransportReplacesSettings := by
  refine ⟨fun op s out => State.gives_of (.setTransport op) (fun _ => rfl) rfl ?_,
    fun op policy action s hasPolicy hasAction => ?_, fun s => State.gives_of .clearIncident (fun _ => rfl) rfl rfl⟩
  · simp only [carryOut, answerSetTransport]
    obtain none' | none' := out <;> rw [none']
    · rfl
    · split
      · cases ‹none = some _›
      · rfl
  · intro range stored asGiven
    have e : storedTransport op policy action = stored := storedTransport_eq op policy action
    have status : okOr (transportClamped op stored) = if asGiven then .ok else .okClamped := by
      rw [← okOr_not]
      simp only [transportClamped, asGiven, not_and_or]
    refine State.gives_of (.setTransport op) (fun _ => rfl) rfl ?_
    simp only [carryOut, answerSetTransport, hasPolicy, hasAction, e, status]
    rfl

end Sys2Proof.Machine
end

section
/-! The Perforation Tracker: edges, frame completion with the ends of legs and passes, and frame references (R54 to R58,
R72 to R83). -/

namespace Sys2Proof.Machine

section
variable {d : Device} {p : Tracker} {position : BitVec 32}

theorem Device.setTracker_some (pt : d.pt = some p) (f : Tracker → Tracker) :
    d.setTracker f = { d with pt := some (f p) } := by
  rw [Device.setTracker, pt, Option.map_some]

/-! ### The treatment of an edge (R72) -/

theorem Transport.motion_still {t : Transport}
    (state : t.state = .empty ∨ t.state = .threading ∨ t.state = .stopped ∨ t.state = .relaxing ∨ t.state = .fault) :
    t.motion = .still := by
  obtain state | state | state | state | state := state <;> simp only [Transport.motion, state]

/-- TC winds, at full speed or at the crawl. -/
def Transport.Winds (t : Transport) : Prop := t.state = .winding ∨ (t.state = .limiting ∧ t.remembered = some .winding)

/-- TC runs, at full speed or at the crawl. -/
def Transport.Runs (t : Transport) : Prop := t.state = .running ∨ (t.state = .limiting ∧ t.remembered = some .running)

theorem Transport.Winds.motion {t : Transport} (winds : t.Winds) : t.motion = t.legMotion := by
  obtain state | ⟨state, remembered⟩ := winds <;> simp only [Transport.motion, *]

theorem Transport.Runs.motion {t : Transport} (runs : t.Runs) : t.motion = .forward := by
  obtain state | ⟨state, remembered⟩ := runs <;> simp only [Transport.motion, *]

theorem Device.edge_still (pt : d.pt = some p) (still : d.tc.motion = .still) : d.edge position = d := by
  simp only [Device.edge, pt, still]

theorem Device.edge_none (none' : d.pt = none) : d.edge position = d := by
  simp only [Device.edge, none']

theorem Device.edge_backward (pt : d.pt = some p) (moves : d.tc.motion = .backward) :
    d.edge position = ({ d with capstan := position } : Device).countBackward := by
  simp only [Device.edge, pt, moves]

theorem Device.edge_forward (pt : d.pt = some p) (moves : d.tc.motion = .forward) :
    d.edge position = ({ d with capstan := position } : Device).forwardEdge p position := by
  simp only [Device.edge, pt, moves]

/-! ### Forward edges by distance (R73 to R78) -/

theorem edgeClass_bounce {pitch : Nat} {s : Int} (near : s ≤ 0 ∨ 4 * s < pitch) : edgeClass pitch s = .bounce :=
  if_pos near

theorem edgeClass_spurious {pitch : Nat} {s : Int} (ahead : 0 < s) (atLeast : (pitch : Int) ≤ 4 * s)
    (below : 4 * s < 3 * pitch) : edgeClass pitch s = .spurious := by
  rw [edgeClass, if_neg (by omega), if_pos below]

theorem edgeClass_good {pitch : Nat} {s : Int} (ahead : 0 < s) (atLeast : 3 * (pitch : Int) ≤ 4 * s)
    (atMost : 4 * s ≤ 5 * pitch) : edgeClass pitch s = .good := by
  rw [edgeClass, if_neg (by omega), if_neg (by omega), if_pos atMost]

theorem edgeClass_gap {pitch : Nat} {s : Int} (ahead : 0 < s) (above : 5 * (pitch : Int) < 4 * s) :
    edgeClass pitch s = .gap := by
  rw [edgeClass, if_neg (by omega), if_neg (by omega), if_neg (by omega)]

theorem Device.forwardEdge_first (pt : d.pt = some p) (unset : p.last = none) :
    d.forwardEdge p position = ({ d with pt := some { p with last := some position } } : Device).countForward := by
  simp only [Device.forwardEdge, unset, Device.setTracker_some pt]

section
variable {last : BitVec 32} (set : p.last = some last)
include set

theorem Device.forwardEdge_bounce (sorted : edgeClass p.pitch (distance position last) = .bounce) :
    d.forwardEdge p position = d := by
  simp only [Device.forwardEdge, set, sorted]

theorem Device.forwardEdge_spurious (sorted : edgeClass p.pitch (distance position last) = .spurious) :
    d.forwardEdge p position = d.finding (spuriousFinding p.head) := by
  simp only [Device.forwardEdge, set, sorted]

theorem Device.forwardEdge_good (sorted : edgeClass p.pitch (distance position last) = .good) :
    d.forwardEdge p position = d.goodEdge p position (distance position last).toNat := by
  simp only [Device.forwardEdge, set, sorted]

theorem Device.forwardEdge_gap (sorted : edgeClass p.pitch (distance position last) = .gap) :
    d.forwardEdge p position = d.gapEdge p position (distance position last).toNat := by
  simp only [Device.forwardEdge, set, sorted]

end

/-- A good edge outside a sixteenth of the pitch is counted only. -/
theorem Device.goodEdge_far (pt : d.pt = some p) {s : Nat} (far : ¬ (15 * p.pitch ≤ 16 * s ∧ 16 * s ≤ 17 * p.pitch)) :
    d.goodEdge p position s = ({ d with pt := some { p with last := some position } } : Device).countForward := by
  simp only [Device.goodEdge, if_neg far, Device.setTracker_some pt]

theorem Tracker.refined_last (t : Tracker) (last : Option (BitVec 32)) (s : Nat) :
    ({ t with last := last } : Tracker).refined s = t.refined s := by
  rw [Tracker.refined, Tracker.refined]

/-- A good edge within a sixteenth of the pitch refines it, and the shrinkage it gives is measured (R74 to R76). -/
theorem Device.goodEdge_near (pt : d.pt = some p) {s : Nat} (near : 15 * p.pitch ≤ 16 * s ∧ 16 * s ≤ 17 * p.pitch) :
    d.goodEdge p position s =
      (let shrinkage := p.gauge.shrinkageAt (p.refined s)
       let measured : Device := { d with
        pt := some { p with
          last := some position, p16 := p.refined s, latest := shrinkage, peak := max p.peak shrinkage } }
       (if p.peak < shrinkage then measured.escalate shrinkage else measured).countForward) := by
  simp only [Device.goodEdge, if_pos near, Device.setTracker_some pt]
  by_cases higher : p.peak < p.gauge.shrinkageAt (p.refined s)
  · simp [Device.measured, Device.setTracker, higher, Nat.le_of_lt higher, Tracker.refined_last]
  · simp [Device.measured, Device.setTracker, higher, Nat.not_lt.mp higher, Tracker.refined_last]

theorem Device.gapEdge_eq (position : BitVec 32) (s : Nat) (p : Tracker) (d : Device) :
    d.gapEdge p position s =
      (let m := (2 * s + p.pitch) / (2 * p.pitch) - 1
       let found := if m = 0 then d else d.finding (missingFinding m p.head)
       let tracked := if 8 < m then found.enterFault .track else found
       Device.countMany (m + 1) { tracked with pt := tracked.pt.map fun x => { x with last := some position } }) := by
  simp only [Device.gapEdge, missing, Device.setTracker, Nat.one_le_iff_ne_zero, ne_eq, ite_not]

/-! ### Pitch and shrinkage (R71, R74, R75) -/

theorem refined_cast (t : Tracker) (s : Nat) :
    (t.refined s : Int) =
      max (match t.gauge with | .g35 => 68407 | .g16 => 109740)
        (min (match t.gauge with | .g35 => 83600 | .g16 => 134112) (t.p16 + (16 * (s : Int) - t.p16).tdiv 16)) := by
  have low : (t.gauge.pitchMin : Int) = match t.gauge with | .g35 => 68407 | .g16 => 109740 := by cases t.gauge <;> rfl
  have high : (t.gauge.pitchMax : Int) = match t.gauge with | .g35 => 83600 | .g16 => 134112 := by cases t.gauge <;> rfl
  have positive : (0 : Int) ≤ t.gauge.pitchMin := Int.natCast_nonneg _
  rw [← low, ← high, Tracker.refined, clampInt, Int.toNat_of_nonneg (positive.trans (le_max_left _ _))]

theorem shrinkageAt_eq (g : Gauge) (p16 : Nat) :
    g.shrinkageAt p16 =
      (let nominal : Int := match g with | .g35 => 76000 | .g16 => 121920
       max 0 (min 999 (((nominal - p16) * 10000).tdiv nominal))).toNat := by
  cases g <;> rfl

end

/-- Settles O33. -/
theorem perforationEdgeIsClassified : Obligations.PerforationEdgeIsClassified := by
  refine fun position s => ⟨fun none' => s.next_dev (Device.edge_none none'), fun rest => ?_, fun p pt => ?_⟩
  · cases pt : s.dev.pt with
    | none => exact s.next_dev (Device.edge_none pt)
    | some p => exact s.next_dev (Device.edge_still pt (Transport.motion_still rest))
  intro latched backward forward
  refine ⟨fun ⟨winds, direction⟩ => s.next_dev (Device.edge_backward pt ?_), fun moves => ?_⟩
  · rw [Transport.Winds.motion winds, Transport.legMotion, direction]
  have forward' : s.dev.tc.motion = .forward := by
    obtain running | crawls | ⟨winds, direction⟩ := moves
    · exact Transport.Runs.motion (.inl running)
    · exact Transport.Runs.motion (.inr crawls)
    · rw [Transport.Winds.motion winds, Transport.legMotion, direction]
  have edge := Device.edge_forward (position := position) pt forward'
  have pt' : latched.pt = some p := pt
  refine ⟨fun unset => s.next_dev (edge.trans (Device.forwardEdge_first pt' unset)), fun last set => ?_⟩
  refine ⟨fun near => s.next_dev (edge.trans (Device.forwardEdge_bounce set (edgeClass_bounce near))),
    fun ahead atLeast below =>
      s.next_dev (edge.trans (Device.forwardEdge_spurious set (edgeClass_spurious ahead atLeast below))),
    fun ahead atLeast atMost => ?_, fun ahead above =>
      s.next_dev ((edge.trans (Device.forwardEdge_gap set (edgeClass_gap ahead above))).trans (Device.gapEdge_eq _ _ _ _))⟩
  have good := edge.trans (Device.forwardEdge_good set (edgeClass_good ahead atLeast atMost))
  refine ⟨fun far => s.next_dev (good.trans (Device.goodEdge_far pt' far)), fun low high => ?_⟩
  intro nominal lowest highest p16 shrinkage refined measured
  have smoothed : p16 = (p.refined (position - last).toInt.toNat : Int) := (refined_cast p _).symm
  have stored : p16.toNat = p.refined (position - last).toInt.toNat := by rw [smoothed, Int.toNat_natCast]
  have shrunk : p.gauge.shrinkageAt (p.refined (position - last).toInt.toNat) = shrinkage := by
    rw [shrinkageAt_eq, ← smoothed] <;> rfl
  refine s.next_dev ((good.trans (Device.goodEdge_near pt' ⟨low, high⟩)).trans ?_)
  simp only [distance, shrunk]
  rw [← stored]

end Sys2Proof.Machine
end

section
/-! Frame completion, the ends of legs and passes, and frame references (R54 to R58, R79 to R83). -/

namespace Sys2Proof.Machine

section
variable {d : Device} {p : Tracker}

/-! ### Perforations counted (R79, R80) -/

theorem Gauge.perFrame_eq (g : Gauge) : g.perFrame = match g with | .g35 => 4 | .g16 => 1 := by cases g <;> rfl

theorem Device.countForward_within (pt : d.pt = some p) (within : p.count + 1 < p.gauge.perFrame) :
    d.countForward = { d with pt := some { p with count := p.count + 1 } } := by
  simp only [Device.countForward, pt, if_pos within, Device.setTracker_some pt]

theorem Device.countBackward_within (pt : d.pt = some p) (within : p.count + 1 < p.gauge.perFrame) :
    d.countBackward = { d with pt := some { p with count := p.count + 1 } } := by
  simp only [Device.countBackward, pt, if_pos within, Device.setTracker_some pt]

theorem Device.countForward_past (pt : d.pt = some p) (whole : ¬ p.count + 1 < p.gauge.perFrame)
    (past : ¬ p.head < p.length) : d.countForward = { d with pt := some { p with count := 0 } } := by
  simp only [Device.countForward, pt, if_neg whole, if_neg past, Device.setTracker_some pt]

theorem Device.countForward_completes (pt : d.pt = some p) (whole : ¬ p.count + 1 < p.gauge.perFrame)
    (inside : p.head < p.length) :
    d.countForward =
      (let done : Device := { d with pt := some { p with count := 0, head := p.head + 1 } }
       if d.capturing then (done.handFrame p.head).boundary (some p.head) else done.boundary none) := by
  simp only [Device.countForward, pt, if_neg whole, if_pos inside, Device.setTracker_some pt]
  rfl

theorem Device.countBackward_start (pt : d.pt = some p) (whole : ¬ p.count + 1 < p.gauge.perFrame) (start : p.head = 0) :
    d.countBackward = { d with pt := some { p with count := 0 } } := by
  simp only [Device.countBackward, pt, if_neg whole, if_pos start, Device.setTracker_some pt]

theorem Device.countBackward_lowers (pt : d.pt = some p) (whole : ¬ p.count + 1 < p.gauge.perFrame) (inside : p.head ≠ 0) :
    d.countBackward = ({ d with pt := some { p with count := 0, head := p.head - 1 } } : Device).boundary none := by
  simp only [Device.countBackward, pt, if_neg whole, if_neg inside, Device.setTracker_some pt]

theorem Device.capturing_iff (d : Device) : d.capturing = true ↔ d.tc.Runs := by
  cases state : d.tc.state <;> simp [Device.capturing, Transport.Runs, state]

/-! ### The end of a leg (R54, R58) -/

section
variable {t : Transport} {head : Nat}

theorem Transport.legEnd_goesOn (goesOn : ¬ t.Winds ∨ t.target ≠ some head) : t.legEnd head = t := by
  have not : ¬ (t.isWinding ∧ t.target = some head) := by
    rw [t.isWinding_iff]
    rintro ⟨winds, reached⟩
    obtain still | before := goesOn
    · exact still winds
    · exact before reached
  rw [Transport.legEnd, if_neg not]

theorem Transport.legEnd_forward (winds : t.Winds) (reached : t.target = some head) (forward : t.direction = some .forward) :
    t.legEnd head = t.startRunning := by
  rw [Transport.legEnd, if_pos ⟨t.isWinding_iff.mpr winds, reached⟩, forward]

theorem Transport.legEnd_atStart (winds : t.Winds) (reached : t.target = some head)
    (backward : t.direction = some .backward) (start : t.pass.map (·.first) = some head) :
    t.legEnd head = ({ t with aligned := true } : Transport).startRunning := by
  rw [Transport.legEnd, if_pos ⟨t.isWinding_iff.mpr winds, reached⟩, backward]
  exact if_pos start

theorem Transport.legEnd_onward (winds : t.Winds) (reached : t.target = some head)
    (backward : t.direction = some .backward) {pass : PassRecord} (inPass : t.pass = some pass) (before : head ≠ pass.first) :
    t.legEnd head = { t with aligned := true, direction := some .forward, target := some pass.first } := by
  have notStart : t.pass.map (·.first) ≠ some head := by simpa [inPass] using before.symm
  have start : t.pass.map (·.first) = some pass.first := by rw [inPass, Option.map_some]
  rw [Transport.legEnd, if_pos ⟨t.isWinding_iff.mpr winds, reached⟩, backward, ← start]
  exact if_neg notStart

/-- RUNNING begins, or at the crawl is remembered. -/
theorem Transport.startRunning_eq (t : Transport) :
    t.startRunning =
      if t.state = .limiting then { t with remembered := some .running, direction := none, target := none }
      else { t with state := .running, direction := none, target := none } := by
  cases state : t.state <;> simp [Transport.startRunning, state]

end

/-! ### The end of a pass at a boundary (R55 to R57) -/

/-- The pass ends at a boundary for END, else for the pending cause. -/
def Device.endIfDue (handed : Option Nat) (pass : PassRecord) (d : Device) : Device :=
  if handed = some pass.last then d.endPass .endFrame .stopped
  else
    match d.tc.pendingEnd with
    | some cause => d.endPass cause.cause .stopped
    | none => d

theorem Device.boundary_inPass {pass : PassRecord} (here : d.tc.pass = some pass) (handed : Option Nat) :
    d.boundary handed = ({ d with tc := d.tc.legEnd d.head } : Device).endIfDue handed pass := by
  have kept : (d.tc.legEnd d.head).pass = some pass := (d.tc.legEnd_pass d.head).trans here
  simp only [Device.boundary, kept, Device.endIfDue] <;> rfl

theorem Device.boundary_noPass (none' : d.tc.pass = none) (goesOn : ¬ d.tc.Winds ∨ d.tc.target ≠ some d.head)
    (handed : Option Nat) : d.boundary handed = d := by
  simp only [Device.boundary, Transport.legEnd_goesOn goesOn, none']

theorem Transport.not_winds {t : Transport}
    (rest : t.state = .empty ∨ t.state = .threading ∨ t.state = .stopped ∨ t.state = .fault) : ¬ t.Winds := by
  rintro (winding | ⟨crawls, -⟩) <;> obtain rest | rest | rest | rest := rest <;> simp_all

end

/-- Settles O34. -/
theorem framesCompleteAndEndLegsAndPasses : Obligations.FramesCompleteAndEndLegsAndPasses := by
  refine ⟨fun p d pt => ?_, fun handed pass r p d inPass loaded pt => ?_, fun handed d none' rest => ?_⟩
  · intro k capturing
    have perFrame : p.gauge.perFrame = k := Gauge.perFrame_eq _
    refine ⟨fun within => ⟨Device.countForward_within pt (perFrame ▸ within),
      Device.countBackward_within pt (perFrame ▸ within)⟩, fun full => ?_, fun _ => rfl⟩
    have whole : ¬ p.count + 1 < p.gauge.perFrame := perFrame ▸ Nat.not_lt.mpr full
    refine ⟨fun past => Device.countForward_past pt whole (Nat.not_lt.mpr past), fun inside =>
      ⟨fun captures => ?_, fun not => ?_⟩, Device.countBackward_start pt whole,
      fun inside => Device.countBackward_lowers pt whole (Nat.ne_of_gt inside)⟩
    · exact (Device.countForward_completes pt whole inside).trans (if_pos (d.capturing_iff.mpr captures))
    · exact (Device.countForward_completes pt whole inside).trans (if_neg (d.capturing_iff.not.mpr not))
  · intro winding ended passEnd running
    have boundary := Device.boundary_inPass inPass handed
    rw [Device.head_eq pt] at boundary
    have ends (e : Device) (same : e.reels = d.reels) : e.endIfDue handed pass = passEnd e := by
      have id : e.loadedId = r.id := Device.loadedId_eq ((Device.loadedReel_congr same).trans loaded)
      simp only [Device.endIfDue, Device.endPass, id, passEnd]
      split
      · rfl
      · cases pending : e.tc.pendingEnd with
        | none => rfl
        | some cause => cases cause <;> rfl
    have runs (aligned : Bool) : ({ d with tc := ({ d.tc with aligned := aligned } : Transport).startRunning } : Device)
        = { running with tc.aligned := aligned } := by
      rw [Transport.startRunning_eq]
      by_cases crawls : d.tc.state = .limiting <;> simp [running, crawls]
    have sameReels (aligned : Bool) : ({ running with tc.aligned := aligned } : Device).reels = d.reels := by
      simp only [running]
      split <;> rfl
    refine ⟨fun goesOn => ?_, fun winds reached => ⟨fun forward => ?_, fun backward => ⟨fun start => ?_, fun before => ?_⟩⟩⟩
    · rw [boundary, Transport.legEnd_goesOn goesOn, ends d rfl]
    · have same : ({ running with tc.aligned := d.tc.aligned } : Device) = running := by
        simp only [running]
        split <;> rfl
      have onward : ({ d with tc := d.tc.startRunning } : Device) = running := (runs d.tc.aligned).trans same
      rw [boundary, Transport.legEnd_forward winds reached forward, onward, ends _ (same ▸ sameReels d.tc.aligned)]
    · rw [boundary, Transport.legEnd_atStart winds reached backward (by simp [inPass, start]), runs true,
        ends _ (sameReels true)]
    · rw [boundary, Transport.legEnd_onward winds reached backward inPass before]
      exact ends { d with tc.aligned := true, tc.direction := some .forward, tc.target := some pass.first } rfl
  · obtain rest | rest | rest | rest | noTarget := rest
    · exact Device.boundary_noPass none' (.inl (Transport.not_winds (.inl rest))) handed
    · exact Device.boundary_noPass none' (.inl (Transport.not_winds (.inr (.inl rest)))) handed
    · exact Device.boundary_noPass none' (.inl (Transport.not_winds (.inr (.inr (.inl rest))))) handed
    · exact Device.boundary_noPass none' (.inl (Transport.not_winds (.inr (.inr (.inr rest))))) handed
    · exact Device.boundary_noPass none' (.inr (by simp [noTarget])) handed

/-! ### Frame references (R81 to R83) -/

section
variable {d : Device} {r : Reel} {p : Tracker} {ref : FrameRef}

theorem Device.resolve_unloaded (none' : d.loadedReel = none) : d.resolve ref = .error .wrongState := by
  simp only [Device.resolve, none']

/-- The base that a reference's mode names: frame 0, the head frame, or a mark; none for another mode or an unset mark. -/
def Tracker.base (t : Tracker) (mode : Nat) : Option Nat :=
  match mode with
  | 0 => some 0
  | 1 => some t.head
  | 2 => t.markA
  | 3 => t.markB
  | _ => none

theorem Device.resolve_base (loaded : d.loadedReel = some r) (pt : d.pt = some p) :
    d.resolve ref =
      match p.base ref.mode.toNat with
      | some b =>
        if 0 ≤ (b : Int) + ref.value.toInt ∧ (b : Int) + ref.value.toInt ≤ (r.length : Int) - 1 then
          .ok ((b : Int) + ref.value.toInt).toNat
        else .error .badValue
      | none => .error .badValue := by
  simp only [Device.resolve, loaded, pt, Tracker.base]
  match ref.mode.toNat with
  | 0 => rfl
  | 1 => rfl
  | 2 => cases p.markA <;> rfl
  | 3 => cases p.markB <;> rfl
  | _ + 4 => rfl

theorem Device.resolve_none (loaded : d.loadedReel = some r) (pt : d.pt = some p) (none' : p.base ref.mode.toNat = none) :
    d.resolve ref = .error .badValue := by
  rw [Device.resolve_base loaded pt, none']

theorem Device.resolve_some (loaded : d.loadedReel = some r) (pt : d.pt = some p) {b : Nat}
    (some' : p.base ref.mode.toNat = some b) :
    d.resolve ref =
      if 0 ≤ (b : Int) + ref.value.toInt ∧ (b : Int) + ref.value.toInt ≤ (r.length : Int) - 1 then
        .ok ((b : Int) + ref.value.toInt).toNat
      else .error .badValue := by
  rw [Device.resolve_base loaded pt, some']

theorem Tracker.base_above {mode : Nat} (h : 3 < mode) (t : Tracker) : t.base mode = none := by
  match mode, h with
  | _ + 4, _ => rfl

theorem answerSetHead_notStopped (state : d.tc.state ≠ .stopped) : answerSetHead ref d = refuse .wrongState d :=
  if_pos state

theorem answerSetHead_unresolved {e : Status} (state : d.tc.state = .stopped) (unresolved : d.resolve ref = .error e) :
    answerSetHead ref d = refuse e d := by
  rw [answerSetHead, if_neg (not_not.mpr state), withFrame_error unresolved]

theorem answerSetHead_sets {frame : Nat} (state : d.tc.state = .stopped) (resolved : d.resolve ref = .ok frame)
    (pt : d.pt = some p) :
    answerSetHead ref d =
      ({ d with tc.aligned := true, pt := some { p with head := frame, count := 0, last := none } },
        ⟨.ok, u8 1 ++ u16 frame⟩) := by
  rw [answerSetHead, if_neg (not_not.mpr state), withFrame_ok resolved,
    Device.setTracker_some (d := { d with tc.aligned := true }) pt]
  rfl

theorem answerSetMark_above {mark : Byte} (above : 1 < mark.toNat) : answerSetMark mark ref d = refuse .badValue d :=
  if_pos above

theorem answerSetMark_unresolved {mark : Byte} {e : Status} (valid : mark.toNat ≤ 1) (unresolved : d.resolve ref = .error e) :
    answerSetMark mark ref d = refuse e d := by
  rw [answerSetMark, if_neg (Nat.not_lt.mpr valid), withFrame_error unresolved]

theorem answerSetMark_sets {mark : Byte} {frame : Nat} (valid : mark.toNat ≤ 1) (resolved : d.resolve ref = .ok frame)
    (pt : d.pt = some p) :
    answerSetMark mark ref d =
      ({ d with pt := some (if mark = 0 then { p with markA := some frame } else { p with markB := some frame }) },
        ⟨.ok, u16 frame⟩) := by
  rw [answerSetMark, if_neg (Nat.not_lt.mpr valid), withFrame_ok resolved, Device.setTracker_some pt]

end

/-- Settles O35. -/
theorem frameReferencesHeadAndMarks : Obligations.FrameReferencesHeadAndMarks := by
  refine ⟨fun ref d => ⟨Device.resolve_unloaded, fun r p loaded pt => ⟨fun above =>
      Device.resolve_none loaded pt (Tracker.base_above above p), fun unset => ?_, fun b named => ?_⟩⟩,
    fun ref s => ⟨fun state => State.gives_of (.setHead ref) (fun _ => rfl) rfl (answerSetHead_notStopped state),
      fun state e unresolved => State.gives_of (.setHead ref) (fun _ => rfl) rfl (answerSetHead_unresolved state unresolved),
      fun mark above => State.gives_of (.setMark mark ref) (fun _ => rfl) rfl (answerSetMark_above above),
      fun mark e valid unresolved =>
        State.gives_of (.setMark mark ref) (fun _ => rfl) rfl (answerSetMark_unresolved valid unresolved),
      fun frame p resolved pt => ⟨fun state =>
          State.gives_of (.setHead ref) (fun _ => rfl) rfl (answerSetHead_sets state resolved pt),
        State.gives_of (.setMark 0 ref) (fun _ => rfl) rfl (answerSetMark_sets (by decide) resolved pt),
        State.gives_of (.setMark 1 ref) (fun _ => rfl) rfl (answerSetMark_sets (by decide) resolved pt)⟩⟩⟩
  · refine Device.resolve_none loaded pt ?_
    obtain ⟨mode, unset⟩ | ⟨mode, unset⟩ := unset <;> rw [mode] <;> exact unset
  · have base : p.base ref.mode.toNat = some b := by
      obtain ⟨mode, rfl⟩ | ⟨mode, rfl⟩ | ⟨mode, mark⟩ | ⟨mode, mark⟩ := named <;> rw [mode]
      · rfl
      · rfl
      · exact mark
      · exact mark
    have resolved := Device.resolve_some (ref := ref) loaded pt base
    refine ⟨fun frame sum inside => ?_, fun outside => ?_⟩
    · rw [resolved, sum, if_pos ⟨by omega, by omega⟩, Int.toNat_natCast]
    · rw [resolved, if_neg (by omega)]

end Sys2Proof.Machine
end

section
/-! The Capture Unit: issuing orders, gaps, lost orders and frame reports (R87 to R99, R154, R179). -/

namespace Sys2Proof.Machine

section
variable {α : Type} {p : α → Bool} {before after : List α} {x : α}

theorem find?_first (passed : ∀ y ∈ before, ¬ p y = true) (found : p x = true) :
    (before ++ x :: after).find? p = some x :=
  List.find?_eq_some_iff_append.mpr ⟨found, before, after, rfl, fun y hy => by simpa using passed y hy⟩

theorem eraseP_first (passed : ∀ y ∈ before, ¬ p y = true) (found : p x = true) :
    (before ++ x :: after).eraseP p = before ++ after := by
  rw [List.eraseP_append_right _ passed, List.eraseP_cons_of_pos found]

end

/-! ### Issuing (R88, R92) -/

/-- The tag given is the first that no order holds: those tried before it are all held. -/
theorem freeTag_first {orders : List Order} {n k : Nat} {t : Byte} (tried : k ≤ n)
    (held : ∀ j < k, ∃ o ∈ orders, o.tag = t + BitVec.ofNat 8 j) (fresh : ∀ o ∈ orders, o.tag ≠ t + BitVec.ofNat 8 k) :
    freeTag orders n t = t + BitVec.ofNat 8 k := by
  induction k generalizing n t with
  | zero =>
    have here : orders.any (fun o => decide (o.tag = t)) = false := by simpa using fresh
    cases n <;> simp [freeTag, here]
  | succ k ih =>
    obtain ⟨n, rfl⟩ : ∃ m, n = m + 1 := ⟨n - 1, by omega⟩
    have next (j : Nat) : t + 1 + BitVec.ofNat 8 j = t + BitVec.ofNat 8 (j + 1) := by
      rw [BitVec.add_assoc, Nat.add_comm j 1, BitVec.ofNat_add]
      rfl
    have here : orders.any (fun o => decide (o.tag = t)) = true := by simpa using held 0 (Nat.succ_pos k)
    rw [freeTag, if_pos here, ih (Nat.le_of_succ_le_succ tried) (fun j hj => by rw [next]; exact held _ (by omega))
      (by rwa [next]), next]

/-- A tag comes back after 256 of them, so the first fresh one is among the first 256. -/
theorem fresh_within {orders : List Order} {k : Nat} {t : Byte}
    (held : ∀ j < k, ∃ o ∈ orders, o.tag = t + BitVec.ofNat 8 j) (fresh : ∀ o ∈ orders, o.tag ≠ t + BitVec.ofNat 8 k) :
    k ≤ 255 := by
  by_contra above
  obtain ⟨o, ho, e⟩ := held (k % 256) (by omega)
  refine fresh o ho (e.trans (congrArg (t + ·) (BitVec.eq_of_toNat_eq ?_)))
  simp

section
variable {d : Device} {r : Reel}

theorem Device.newOrder_eq {pass : PassRecord} {tag : Byte} (inPass : d.tc.pass = some pass)
    (e : freeTag d.cu.orders 255 d.cu.tagCounter = tag) (frame : Nat) :
    d.newOrder frame =
      { tag, pass := pass.number, frame, shot := d.gu.shotIndex frame, grade := d.gradeAt frame, issued := d.time.clock
        deadline := d.time.runCounter + d.cu.timeout } := by
  rw [Device.newOrder, e, inPass]
  rfl

theorem Device.handFrame_begun (few : d.cu.orders.length < 8) (idle : d.pipe.sending = none) (none' : d.pipe.waiting = [])
    (frame : Nat) :
    d.handFrame frame =
      ({ d with
        cu.orders := d.cu.orders ++ [d.newOrder frame], cu.tagCounter := (d.newOrder frame).tag + 1
        pipe.sending := some (captureOrderChars (d.newOrder frame)) } : Device).count .orders := by
  obtain ⟨busy, -⟩ | ⟨-, -, e⟩ | ⟨-, first, rest, some', -⟩ := d.pipe.hand_cases (d.newOrder frame)
  · rw [idle] at busy
    cases busy
  · rw [Device.handFrame, if_pos few, Device.issue, e]
  · rw [none'] at some'
    cases some'

theorem Device.handFrame_waiting (few : d.cu.orders.length < 8) (busy : d.pipe.sending.isSome) (frame : Nat) :
    d.handFrame frame =
      ({ d with
        cu.orders := d.cu.orders ++ [d.newOrder frame], cu.tagCounter := (d.newOrder frame).tag + 1
        pipe.waiting := d.pipe.waiting ++ [d.newOrder frame] } : Device).count .orders := by
  obtain ⟨-, e⟩ | ⟨idle, -⟩ | ⟨idle, -⟩ := d.pipe.hand_cases (d.newOrder frame)
  · rw [Device.handFrame, if_pos few, Device.issue, e]
  all_goals simp [idle] at busy

/-! ### Gaps and lost orders (R89 to R91, R99) -/

theorem Device.raiseGaps_below (few : d.cu.gaps < 7) : d.raiseGaps = { d with cu.gaps := d.cu.gaps + 1 } :=
  if_neg (by omega)

theorem Device.raiseGaps_eighth (seven : 7 ≤ d.cu.gaps) :
    d.raiseGaps = ({ d with cu.gaps := 0 } : Device).askEnd .pipeline :=
  if_pos (by omega)

theorem Device.finding_cu (f : Finding) : (d.finding f).cu = d.cu := by
  obtain ⟨-, -, -, -, -, -, cu, -⟩ := d.finding_frame f
  exact cu

/-- The order whose deadline has been reached, retired as lost (R99). -/
def Device.lose (o : Order) (d : Device) : Device :=
  ((d.count .lostOrders).finding (gapFinding .lost o.frame)).post .captureLost d.loadedId o.frame

theorem Device.lose_cu (o : Order) : (d.lose o).cu = d.cu :=
  Device.finding_cu _

theorem Device.reportExpires_held {tag : Byte} {before after : List Order} {o : Order}
    (held : d.cu.orders = before ++ o :: after) (passed : ∀ x ∈ before, x.tag ≠ tag) (found : o.tag = tag) :
    d.reportExpires tag =
      if o.deadline ≤ d.time.runCounter then
        (({ d with cu.orders := before ++ after } : Device).lose o).raiseGaps
      else d := by
  have passed' : ∀ x ∈ before, ¬ decide (x.tag = tag) = true := by simpa using passed
  have found' : decide (o.tag = tag) = true := by simpa using found
  simp only [Device.reportExpires, held, find?_first passed' found', eraseP_first passed' found', Device.reached_some rfl]
  rfl

theorem Device.reportExpires_unheld {tag : Byte} (none' : ∀ x ∈ d.cu.orders, x.tag ≠ tag) : d.reportExpires tag = d := by
  have e : d.cu.orders.find? (fun o => decide (o.tag = tag)) = none := by simpa using none'
  rw [Device.reportExpires, e]

end

/-- Settles O36. -/
theorem ordersAreIssuedAndLost : Obligations.OrdersAreIssuedAndLost := by
  refine ⟨fun frame d => ⟨fun pass k few inPass => ?_, fun full => ?_⟩,
    fun tag before after o r s loaded held passed found => ⟨fun early => ?_, fun late => ?_⟩,
    fun tag s none' => s.next_dev (Device.reportExpires_unheld none'), fun timeout dust scratch s => ?_⟩
  · intro tag held fresh order issued
    have e : d.newOrder frame = order :=
      Device.newOrder_eq inPass (freeTag_first (fresh_within held fresh) held fresh) frame
    refine ⟨fun idle none' => ?_, fun busy => ?_⟩
    · rw [Device.handFrame_begun few idle none', e]
    · rw [Device.handFrame_waiting few busy, e]
  · intro gap lost
    have cu : lost.cu = d.cu := Device.finding_cu gap
    have hand : d.handFrame frame = lost.raiseGaps := if_neg (Nat.not_lt.mpr full)
    rw [hand, ← cu]
    exact ⟨Device.raiseGaps_below, Device.raiseGaps_eighth⟩
  · exact s.next_dev ((Device.reportExpires_held held passed found).trans (if_neg (Nat.not_le.mpr early)))
  · intro gap retired lost
    have expired : s.dev.reportExpires tag = lost.raiseGaps := by
      rw [Device.reportExpires_held held passed found, if_pos late, Device.lose,
        Device.loadedId_eq (d := { s.dev with cu.orders := before ++ after }) loaded]
      rfl
    have cu : lost.cu = retired.cu := Device.lose_cu o
    refine ⟨fun few => s.next_dev (expired.trans ?_), fun seven => s.next_dev (expired.trans ?_)⟩
    · exact (Device.raiseGaps_below (by rwa [cu])).trans (by rw [cu])
    · exact Device.raiseGaps_eighth (by rwa [cu])
  · intro t x y
    have ht : clampNat 20 2000 timeout.toNat = t := clampNat_eq_ite (by decide) _
    have once (n : BitVec 16) : clampNat 1 65535 n.toNat = if n.toNat = 0 then 1 else n.toNat := by
      have := n.isLt
      rw [clampNat_eq_ite (by decide)]
      split_ifs <;> omega
    have hx : clampNat 1 65535 dust.toNat = x := once dust
    have hy : clampNat 1 65535 scratch.toNat = y := once scratch
    refine State.gives_of (.setCapture timeout dust scratch) (fun _ => rfl) rfl ?_
    simp only [carryOut, answerSetCapture, ht, hx, hy, Capture.settingsBytes]
    refine Prod.ext rfl (congrArg (Answer.mk · _) ?_)
    rw [← okOr_not]
    simp only [not_and_or]

/-! ### Frame reports (R93 to R98, R154) -/

theorem FrameReport.answers_iff (r : FrameReport) (o : Order) : r.answers o = true ↔ o.tag = r.tag ∧ o.frame = r.frame := by
  simp [FrameReport.answers]

theorem Defect.covers_iff (x : Defect) (frame : Nat) : x.covers frame = true ↔ x.frame ≤ frame ∧ frame < x.frame + x.extent := by
  simp [Defect.covers]

theorem clipCode_iff (n : Nat) : clipCode n = true ↔ n ≤ 31 ∨ 992 ≤ n := by
  simp [clipCode]

section
variable {d : Device}

theorem Device.report_matched {r : FrameReport} {before after : List Order} {o : Order}
    (held : d.cu.orders = before ++ o :: after) (passed : ∀ x ∈ before, ¬ (x.tag = r.tag ∧ x.frame = r.frame))
    (tag : o.tag = r.tag) (frame : o.frame = r.frame) :
    d.report r = ({ d with cu.orders := before ++ after, cu.gaps := 0 } : Device).matched r o := by
  have passed' : ∀ x ∈ before, ¬ r.answers x = true := by simpa only [FrameReport.answers_iff] using passed
  have found := (r.answers_iff o).mpr ⟨tag, frame⟩
  simp only [Device.report, held, find?_first passed' found, eraseP_first passed' found]

theorem Device.report_stale {r : FrameReport} (none' : ∀ o ∈ d.cu.orders, ¬ (o.tag = r.tag ∧ o.frame = r.frame)) :
    d.report r = (d.count .staleReports).post .staleReport 0 r.frame := by
  have e : d.cu.orders.find? r.answers = none :=
    List.find?_eq_none.mpr (by simpa only [FrameReport.answers_iff] using none')
  rw [Device.report, e]

/-- A finding changes no limit, so both counts are compared with the limits that stood before (R95). -/
theorem Device.reportFindings_eq (r : FrameReport) (frame : Nat) (d : Device) :
    d.reportFindings r frame =
      (let dusty : Device := if d.cu.dustLimit ≤ r.dust then d.finding
          { kind := .dust, frame, severity := countSeverity r.dust d.cu.dustLimit, detail := r.dust, origin := .pipeline }
        else d
       let scratched : Device := if d.cu.scratchLimit ≤ r.scratch then dusty.finding
          { kind := .scratch, frame, severity := countSeverity r.scratch d.cu.scratchLimit, detail := r.scratch
            origin := .pipeline }
        else dusty
       if r.focusFail then scratched.finding (gapFinding .focus frame) else scratched) := by
  by_cases dusty : d.cu.dustLimit ≤ r.dust
  · simp only [Device.reportFindings, if_pos dusty, Device.finding_cu]
  · simp only [Device.reportFindings, if_neg dusty]

theorem Device.resolveGaps_eq (frame : Nat) (d : Device) :
    d.resolveGaps frame =
      { d with dm.records := d.dm.records.map fun x =>
        if x.kind = .scanGap ∧ x.state = .found ∧ x.frame ≤ frame ∧ frame < x.frame + x.extent then
          { x with state := .repaired } else x } := by
  simp only [Device.resolveGaps, Defect.openGap, Bool.and_eq_true, Defect.covers_iff, decide_eq_true_eq, and_assoc]

theorem Device.damaged_iff (frame : Nat) :
    d.damaged frame = true ↔ ∃ x ∈ d.dm.records, x.frame ≤ frame ∧ frame < x.frame + x.extent ∧ x.state ≠ .waived
      ∧ x.state ≠ .repaired ∧ 4 ≤ x.severity := by
  simp only [Device.damaged, List.any_eq_true, Bool.and_eq_true, Defect.covers_iff, decide_eq_true_eq, and_assoc]

theorem Device.excluded_iff (r : FrameReport) (frame : Nat) :
    d.excluded r frame = true ↔
      (∃ x ∈ d.dm.records, x.frame ≤ frame ∧ frame < x.frame + x.extent ∧ x.state ≠ .waived ∧ x.state ≠ .repaired
        ∧ 4 ≤ x.severity)
      ∨ r.exposureClip = true ∨ r.focusFail = true ∨ d.gu.excludes frame = true := by
  simp only [Device.excluded, Bool.or_eq_true, Device.damaged_iff, or_assoc]

theorem outputCodes_clip_iff (g : Grade) (mean : PerChannel Nat) :
    (outputCodes g mean).any clipCode = true ↔
      (outputCode g.red mean.red ≤ 31 ∨ 992 ≤ outputCode g.red mean.red)
      ∨ (outputCode g.green mean.green ≤ 31 ∨ 992 ≤ outputCode g.green mean.green)
      ∨ (outputCode g.blue mean.blue ≤ 31 ∨ 992 ≤ outputCode g.blue mean.blue) := by
  simp only [outputCodes, PerChannel.zipWith, PerChannel.any, Bool.or_eq_true, clipCode_iff, or_assoc]

end

/-- Settles O37. -/
theorem reportRetiresItsOrder : Obligations.ReportRetiresItsOrder := by
  refine ⟨fun r d none' => Device.report_stale none', fun r before after o d held passed tag frame => ?_⟩
  intro retired dust scratch focus d1 d2 d3 excluded code clips d4 isExcluded isTaken
  have effects : (if r.focusFail then retired.reportFindings r o.frame
      else (retired.reportFindings r o.frame).resolveGaps o.frame) = d3 := by
    rw [Device.reportFindings_eq]
    cases focused : r.focusFail with
    | true => simp only [d3, if_pos focused]; rfl
    | false => simp only [d3, if_neg (ne_true_of_eq_false focused), Device.resolveGaps_eq]; rfl
  have taken : (if d3.excluded r o.frame then d3 else d3.takeStatistics r.mean r.base) = d4 := by
    by_cases out : excluded
    · rw [isExcluded out, if_pos ((Device.excluded_iff r o.frame).mpr out)]
    · rw [isTaken out, if_neg (mt (Device.excluded_iff r o.frame).mp out)]
  have report : d.report r = d4.clipCheck o.frame r.mean o.grade := by
    rw [Device.report_matched held passed tag frame, Device.matched, effects, taken]
  have clipped : (outputCodes o.grade r.mean).any clipCode = true ↔ clips := outputCodes_clip_iff _ _
  refine ⟨fun none' => report.trans (if_neg (mt clipped.mp none')), fun some' => report.trans ?_⟩
  simp only [Device.clipCheck, if_pos (clipped.mpr some'), bump16_eq_min]

end Sys2Proof.Machine
end

section
/-! The Defect Map: findings, enqueues and ADD_DEFECT (R106 to R112, R122, R123). -/

namespace Sys2Proof.Machine

/-! ### What takes a finding (R105, R107, R108) -/

/-- The record is of the finding's kind and takes findings. -/
def Defect.opensTo (f : Finding) (x : Defect) : Prop := x.kind = f.kind ∧ (x.state = .found ∨ ∃ p, x.state = .queued p)

theorem DefectState.takesFindings_iff (s : DefectState) : s.takesFindings = true ↔ s = .found ∨ ∃ p, s = .queued p := by
  cases s <;> simp [DefectState.takesFindings]

theorem Defect.merges_iff (f : Finding) (x : Defect) :
    x.merges f = true ↔ x.opensTo f ∧ x.frame ≤ f.frame ∧ f.frame < x.frame + x.extent := by
  simp only [Defect.merges, Bool.and_eq_true, decide_eq_true_eq, DefectState.takesFindings_iff, Defect.covers_iff,
    Defect.opensTo]

theorem Defect.extendsTo_iff (f : Finding) (x : Defect) :
    x.extendsTo f = true ↔ x.opensTo f ∧ 1 ≤ f.frame ∧ x.frame + x.extent = f.frame ∧ x.extent < 255 := by
  simp only [Defect.extendsTo, Bool.and_eq_true, decide_eq_true_eq, DefectState.takesFindings_iff, Defect.opensTo, and_assoc]

theorem DefectKind.extends_iff (k : DefectKind) :
    k.extends = true ↔ k = .perfDamage ∨ k = .warp ∨ k = .dust ∨ k = .scratch := by
  cases k <;> simp [DefectKind.extends]

section
variable {f : Finding} {d : Device} {before after : List Defect} {x : Defect}

theorem Device.record_merged (held : d.dm.records = before ++ x :: after) (passed : ∀ y ∈ before, ¬ y.merges f = true)
    (found : x.merges f = true) : d.record f = ((d.setDefect x.id (·.raise f)).autoQueue x.id, some x.id) := by
  simp only [Device.record, held, find?_first (p := (Defect.merges f)) passed found]

theorem Device.record_grown (unmerged : ∀ y ∈ d.dm.records, ¬ y.merges f = true)
    (held : d.dm.records = before ++ x :: after) (kind : f.kind.extends = true)
    (passed : ∀ y ∈ before, ¬ y.extendsTo f = true) (found : x.extendsTo f = true) :
    d.record f =
      ((d.setDefect x.id fun y => { y.raise f with extent := y.extent + 1 }).autoQueue x.id, some x.id) := by
  have merged : d.dm.records.find? (Defect.merges f) = none := List.find?_eq_none.mpr unmerged
  rw [held] at merged
  simp only [Device.record, held, merged, if_pos kind, find?_first (p := Defect.extendsTo f) passed found]

/-- No record takes the finding: it makes a new one, or is lost to a full map (R109). -/
theorem Device.record_untaken (unmerged : ∀ y ∈ d.dm.records, ¬ y.merges f = true)
    (ungrown : f.kind.extends = true → ∀ y ∈ d.dm.records, ¬ y.extendsTo f = true) :
    d.record f =
      if d.dm.records.length < 1024 then
        (({ d with dm.records := d.dm.records ++ [
            { id := d.dm.records.length, frame := f.frame, extent := 1, kind := f.kind, severity := f.severity
              state := .found, origin := f.origin, detail := f.detail, found := d.time.clock, refused := false }] }
            : Device).autoQueue d.dm.records.length, some d.dm.records.length)
      else ((d.count .mapOverflow).post .mapFull 0 f.frame, none) := by
  have merged : d.dm.records.find? (Defect.merges f) = none := List.find?_eq_none.mpr unmerged
  have grown : (if f.kind.extends then d.dm.records.find? (Defect.extendsTo f) else none) = none := by
    split
    · exact List.find?_eq_none.mpr (ungrown ‹_›)
    · rfl
  simp only [Device.record, merged, grown]

end

/-- Settles O38. -/
theorem findingsMergeExtendOrAppend : Obligations.FindingsMergeExtendOrAppend := by
  refine fun f d => ⟨fun none' => ?_, fun r loaded => ?_, ?_⟩
  · rw [Device.finding, none']
  · rw [Device.finding, loaded]
  intro open_ merges grows
  have merges_iff (x : Defect) : x.merges f = true ↔ merges x := Defect.merges_iff f x
  have grows_iff (x : Defect) : f.kind.extends = true ∧ x.extendsTo f = true ↔ grows x := by
    rw [DefectKind.extends_iff, Defect.extendsTo_iff]
    exact Iff.rfl
  refine ⟨fun before x after held passed found => ?_, fun unmerged => ?_⟩
  · exact Device.record_merged held (fun y hy => mt (merges_iff y).mp (passed y hy)) ((merges_iff x).mpr found)
  have unmerged' : ∀ y ∈ d.dm.records, ¬ y.merges f = true := fun y hy => mt (merges_iff y).mp (unmerged y hy)
  refine ⟨fun before x after held passed found => ?_, fun ungrown => ?_⟩
  · obtain ⟨kind, found⟩ := (grows_iff x).mpr found
    exact Device.record_grown unmerged' held kind (fun y hy grown => passed y hy ((grows_iff y).mp ⟨kind, grown⟩)) found
  · have untaken := Device.record_untaken unmerged' fun kind y hy grown => ungrown y hy ((grows_iff y).mp ⟨kind, grown⟩)
    exact ⟨fun room => untaken.trans (if_pos room), fun full => untaken.trans (if_neg (Nat.not_lt.mpr full))⟩

/-! ### Enqueues (R110, R122, R123) -/

/-- The priority by severity, read from below. -/
theorem severityPriority_eq (n : Nat) :
    severityPriority n = if n ≤ 1 then .p0 else if n ≤ 3 then .p1 else if n ≤ 5 then .p2 else .p3 := by
  grind [severityPriority]

theorem Repair.occupancy_eq (q : Repair) :
    q.occupancy = q.queues.p0.length + q.queues.p1.length + q.queues.p2.length + q.queues.p3.length
      + (q.stations.toList.filter (·.state.isWorking)).length := by
  rw [Repair.occupancy, List.countP_eq_length_filter]

section
variable {d : Device} {p : Priority} {r : Defect}

theorem Device.accepts_iff : d.accepts p = true ↔ d.rq.occupancy < refusalLevel p := by
  simp [Device.accepts]

theorem Device.enqueue_accepted (accepted : d.accepts p = true) :
    d.enqueue p r = (d.appendEntry p ⟨r.id, r.kind⟩).setDefect r.id fun x => { x with state := .queued p, refused := false } :=
  if_pos accepted

theorem Device.enqueue_refused (refused : ¬ d.accepts p = true) :
    d.enqueue p r =
      ((d.setDefect r.id fun x => { x with refused := true }).count (.refusal p)).post .queueRefused p.code r.id :=
  if_neg refused

end

/-- Settles O39. -/
theorem enqueueAcceptsBelowItsLevel : Obligations.EnqueueAcceptsBelowItsLevel := by
  refine ⟨fun p r d => ?_, fun id r d found => ?_⟩
  · intro level held
    have occupancy : d.rq.occupancy = held := Repair.occupancy_eq d.rq
    have atLevel : refusalLevel p = level := by cases p <;> rfl
    have accepts : d.accepts p = true ↔ held < level := by rw [Device.accepts_iff, occupancy, atLevel]
    exact ⟨fun below => Device.enqueue_accepted (accepts.mpr below),
      fun above => Device.enqueue_refused (mt accepts.mp (Nat.not_lt.mpr above))⟩
  · intro threshold p
    have test : d.autoQueue id =
        if r.state = .found ∧ threshold < 8 ∧ threshold ≤ r.severity then d.enqueue p r else d := by
      simp only [Device.autoQueue, found, severityPriority_eq]
      rfl
    exact ⟨fun queued => test.trans (if_pos queued), fun left => test.trans (if_neg left)⟩

/-! ### ADD_DEFECT (R112) -/

section
variable {d : Device} {op : AddDefectOperands} {r : Reel} {kind : DefectKind}

theorem answerAddDefect_unloaded (none' : d.loadedReel = none) : answerAddDefect op d = refuse .wrongState d := by
  rw [answerAddDefect, none']

theorem answerAddDefect_noKind (loaded : d.loadedReel = some r) (none' : DefectKind.ofCode op.kind.toNat = none) :
    answerAddDefect op d = refuse .badValue d := by
  simp only [answerAddDefect, loaded, none']

theorem answerAddDefect_outOfRange (loaded : d.loadedReel = some r) (out : 7 < op.severity.toNat ∨ op.count = 0) :
    answerAddDefect op d = refuse .badValue d := by
  simp only [answerAddDefect, loaded, if_pos out]
  split <;> rfl

theorem answerAddDefect_valid (loaded : d.loadedReel = some r) (some' : DefectKind.ofCode op.kind.toNat = some kind)
    (severity : op.severity.toNat ≤ 7) (count : op.count ≠ 0) :
    answerAddDefect op d = withFrame op.ref d fun frame =>
      if r.length - 1 < frame + op.count.toNat - 1 then refuse .badValue d
      else
        let run := d.addRun { kind, frame, severity := op.severity.toNat, detail := op.detail.toNat, origin := .host }
          op.count.toNat
        let lost := run.2.countP (·.isNone)
        (run.1, ⟨if lost = 0 then .ok else .full,
          u16? (run.2.head?.getD none) ++ u16? (run.2.getLast?.getD none) ++ u8 lost⟩) := by
  have valid : ¬ (7 < op.severity.toNat ∨ op.count = 0) := fun out => out.elim (Nat.not_lt.mpr severity) count
  simp only [answerAddDefect, loaded, some', if_neg valid]

end

/-- Settles O40. -/
theorem addDefectRecordsRun : Obligations.AddDefectRecordsRun := by
  refine ⟨fun f n d => ⟨rfl, rfl⟩, fun op s => ?_⟩
  intro c
  have gives {d : Device} {status : Status} {body : List Byte} (h : answerAddDefect op s.dev = (d, ⟨status, body⟩)) :
      s.Gives c .addDefect d status body :=
    State.gives_of (.addDefect op) (fun _ => rfl) rfl h
  refine ⟨fun none' => gives (answerAddDefect_unloaded none'), fun r loaded => ⟨fun out => ?_, fun kind some' severity
    count => ⟨fun e unresolved => ?_, fun frame resolved => ?_⟩⟩⟩
  · obtain none' | out := out
    · exact gives (answerAddDefect_noKind loaded none')
    · exact gives (answerAddDefect_outOfRange loaded out)
  · exact gives ((answerAddDefect_valid loaded some' severity count).trans (withFrame_error unresolved _))
  have answer := (answerAddDefect_valid loaded some' severity count).trans (withFrame_ok resolved _)
  obtain ⟨reel, -, same, -, inReel⟩ := Device.resolve_in_reel resolved
  obtain rfl : r = reel := Option.some.inj (loaded.symm.trans same)
  have counted : op.count.toNat ≠ 0 := fun zero => count (BitVec.eq_of_toNat_eq zero)
  have ends : r.length - 1 < frame + op.count.toNat - 1 ↔ r.length < frame + op.count.toNat := by omega
  refine ⟨fun past => gives (answer.trans (if_pos (ends.mpr past))), fun within => ?_⟩
  intro run lost first last isFirst isLast
  refine gives (answer.trans ((if_neg (mt ends.mp (Nat.not_lt.mpr within))).trans ?_))
  exact Prod.ext rfl (congrArg (Answer.mk _) (by simp only [isFirst, isLast, Option.getD_some, run, lost]))

end Sys2Proof.Machine
end

section
/-! The requests on defects (R111, R113 to R115). -/

namespace Sys2Proof.Machine

theorem Priority.ofCode_code (p : Priority) : Priority.ofCode p.code = some p := by cases p <;> rfl

theorem Priority.ofCode_byte (p : Priority) : Priority.ofCode (BitVec.ofNat 8 p.code).toNat = some p := by cases p <;> rfl

theorem Priority.ofCode_above {n : Nat} (above : 3 < n) : Priority.ofCode n = none := by
  obtain ⟨k, rfl⟩ : ∃ k, n = k + 4 := ⟨n - 4, by omega⟩
  rfl

theorem Priority.ofCode_within {n : Nat} (within : n ≤ 3) : ∃ p, Priority.ofCode n = some p := by
  interval_cases n
  exacts [⟨.p0, rfl⟩, ⟨.p1, rfl⟩, ⟨.p2, rfl⟩, ⟨.p3, rfl⟩]

theorem DefectKind.ofCode_above {n : Nat} (above : 7 < n) : DefectKind.ofCode n = none := by
  obtain ⟨k, rfl⟩ : ∃ k, n = k + 8 := ⟨n - 8, by omega⟩
  rfl

theorem recordBytes_found {d : Device} {id : Nat} {r : Defect} (found : d.findDefect id = some r) :
    recordBytes d id = r.bytes := by
  rw [recordBytes, found]
  rfl

/-! ### QUEUE_DEFECT (R113) -/

/-- The priority a QUEUE_DEFECT asks for: the one given, or, by code 4, that of the severity. -/
def askedPriority (priority : Byte) (r : Defect) : Option Priority :=
  if priority = 4 then some (severityPriority r.severity) else Priority.ofCode priority.toNat

section
variable {d : Device} {id : BitVec 16} {r : Defect} {priority : Byte} {p : Priority}

theorem askedPriority_above (above : 4 < priority.toNat) : askedPriority priority r = none := by
  rw [askedPriority, if_neg (by rintro rfl; exact absurd above (by decide)), Priority.ofCode_above (Nat.lt_of_succ_lt above)]

theorem askedPriority_within (within : priority.toNat ≤ 4) : ∃ p, askedPriority priority r = some p := by
  rw [askedPriority]
  split
  · exact ⟨_, rfl⟩
  · have : priority.toNat ≠ 4 := fun e => ‹¬ priority = 4› (BitVec.eq_of_toNat_eq e)
    exact Priority.ofCode_within (by omega)

theorem askedPriority_eq (asked : priority.toNat = p.code ∨ priority = 4 ∧ p =
    (if r.severity ≤ 1 then .p0 else if r.severity ≤ 3 then .p1 else if r.severity ≤ 5 then .p2 else .p3)) :
    askedPriority priority r = some p := by
  obtain given | ⟨rfl, rfl⟩ := asked
  · rw [askedPriority, if_neg, given, Priority.ofCode_code]
    rintro rfl
    cases p <;> cases given
  · rw [askedPriority, if_pos rfl, severityPriority_eq]

theorem answerQueueDefect_noPriority (named : d.NamesDefect id r) (none' : askedPriority priority r = none) :
    answerQueueDefect id priority d = refuse .badValue d := by
  rw [askedPriority] at none'
  simp only [answerQueueDefect, withDefect_names named, none']

theorem answerQueueDefect_scanGap (named : d.NamesDefect id r) (gap : r.kind = .scanGap) :
    answerQueueDefect id priority d = refuse .badValue d := by
  simp only [answerQueueDefect, withDefect_names named, if_pos gap]
  split <;> rfl

theorem answerQueueDefect_asked (named : d.NamesDefect id r) (asked : askedPriority priority r = some p)
    (kind : r.kind ≠ .scanGap) :
    answerQueueDefect id priority d =
      if r.state ≠ .found then refuseWith .wrongState (u8 r.state.code) d
      else (d.enqueue p r, ⟨if d.accepts p then .ok else .full, recordBytes (d.enqueue p r) r.id⟩) := by
  rw [askedPriority] at asked
  simp only [answerQueueDefect, withDefect_names named, asked, if_neg kind]

theorem Device.NamesDefect.found (named : d.NamesDefect id r) : d.findDefect r.id = some r := by
  obtain ⟨-, -, found⟩ := named
  rwa [Device.findDefect_id found]

/-- The record that an enqueue of it leaves (R122, R123). -/
theorem recordBytes_enqueue (found : d.findDefect r.id = some r) (p : Priority) :
    recordBytes (d.enqueue p r) r.id =
      if d.accepts p then ({ r with state := .queued p, refused := false } : Defect).bytes
      else ({ r with refused := true } : Defect).bytes := by
  obtain ⟨accepted, e⟩ | ⟨refused, e⟩ := d.enqueue_cases p r
  · rw [e, if_pos accepted]
    exact recordBytes_found (Device.findDefect_setDefect (d := d.appendEntry p ⟨r.id, r.kind⟩)
      (f := fun x => { x with state := .queued p, refused := false }) (fun _ => rfl) found)
  · rw [e, if_neg (ne_true_of_eq_false refused)]
    exact recordBytes_found (d := Device.post _ _ _ (Device.count _ _))
      (Device.findDefect_setDefect (f := fun x => { x with refused := true }) (fun _ => rfl) found)

/-! ### WAIVE_DEFECT and REQUEUE_DEFECT (R114, R115) -/

theorem answerWaiveDefect_closed (named : d.NamesDefect id r)
    (closed : r.state = .repaired ∨ r.state = .waived ∨ r.state = .deferred) :
    answerWaiveDefect id d = refuse .wrongState d := by
  obtain state | state | state := closed <;> simp only [answerWaiveDefect, withDefect_names named, state]

theorem answerRequeueDefect_above (named : d.NamesDefect id r) (above : 3 < priority.toNat) :
    answerRequeueDefect id priority d = refuse .badValue d := by
  simp only [answerRequeueDefect, withDefect_names named, Priority.ofCode_above above]

theorem answerRequeueDefect_unqueued (named : d.NamesDefect id r)
    (state : r.state = .found ∨ r.state = .repaired ∨ r.state = .waived ∨ r.state = .deferred) :
    answerRequeueDefect id (BitVec.ofNat 8 p.code) d = refuse .wrongState d := by
  obtain state | state | state | state := state <;>
    simp only [answerRequeueDefect, withDefect_names named, Priority.ofCode_byte, state]

theorem answerRequeueDefect_queued (named : d.NamesDefect id r) {old : Priority} (state : r.state = .queued old) :
    answerRequeueDefect id (BitVec.ofNat 8 p.code) d =
      (((d.dropEntry old r.id).appendEntry p ⟨r.id, r.kind⟩).setDefect r.id fun x => { x with state := .queued p },
        ⟨.ok, ({ r with state := .queued p } : Defect).bytes⟩) := by
  simp only [answerRequeueDefect, withDefect_names named, Priority.ofCode_byte, state]
  rw [recordBytes_found (Device.findDefect_setDefect (d := (d.dropEntry old r.id).appendEntry p ⟨r.id, r.kind⟩)
    (f := fun x => { x with state := .queued p }) (fun _ => rfl) named.found)]

end

/-! ### SET_DEFECT_POLICY (R111) -/

theorem answerSetDefectPolicy_refused {kind threshold : Byte} {d : Device}
    (bad : 7 < kind.toNat ∨ 8 < threshold.toNat ∨ (kind = 7 ∧ threshold.toNat < 8)) :
    answerSetDefectPolicy kind threshold d = refuse .badValue d := by
  rw [answerSetDefectPolicy]
  obtain unknown | above | ⟨rfl, below⟩ := bad
  · rw [DefectKind.ofCode_above unknown]
  · simp only [if_pos above]
    split <;> rfl
  · have gap : DefectKind.ofCode (7 : Byte).toNat = some .scanGap := rfl
    simp only [gap, if_pos (show True ∧ threshold.toNat < 8 from ⟨trivial, below⟩), ite_self]

theorem answerSetDefectPolicy_set {kind threshold : Byte} {d : Device} {k : DefectKind}
    (known : DefectKind.ofCode kind.toNat = some k) (within : threshold.toNat ≤ 8)
    (gap : k = .scanGap → threshold.toNat = 8) :
    answerSetDefectPolicy kind threshold d =
      ({ d with dm.thresholds := d.dm.thresholds.set k threshold.toNat },
        ⟨.ok, (d.dm.thresholds.set k threshold.toNat).toList.flatMap u8⟩) := by
  have notGap : ¬ (k = .scanGap ∧ threshold.toNat < 8) := fun ⟨e, below⟩ => absurd (gap e) (Nat.ne_of_lt below)
  simp only [answerSetDefectPolicy, known, if_neg (Nat.not_lt.mpr within), if_neg notGap]

/-- Settles O41. -/
theorem defectRequestsFollowTheirTables : Obligations.DefectRequestsFollowTheirTables := by
  refine ⟨fun id r s named => ?_, fun kind threshold s => ?_⟩
  · intro dropped
    have waives {d : Device} {status : Status} {body : List Byte}
        (h : answerWaiveDefect id s.dev = (d, ⟨status, body⟩)) : s.Gives (.waiveDefect · id) .waiveDefect d status body :=
      State.gives_of (.waiveDefect id) (fun _ => rfl) rfl h
    refine ⟨fun priority => ?_, fun state => waives ?_, fun p state => waives ?_, fun p station state => waives ?_,
      fun state => waives (answerWaiveDefect_closed named state), fun priority above => ?_, fun p => ?_⟩
    · have queues {d : Device} {status : Status} {body : List Byte}
          (h : answerQueueDefect id priority s.dev = (d, ⟨status, body⟩)) :
          s.Gives (.queueDefect · id priority) .queueDefect d status body :=
        State.gives_of (.queueDefect id priority) (fun _ => rfl) rfl h
      refine ⟨fun above => queues (answerQueueDefect_noPriority named (askedPriority_above above)),
        fun gap => queues (answerQueueDefect_scanGap named gap), fun within kind state => ?_, fun p asked kind state => ?_⟩
      · obtain ⟨p, asked⟩ := askedPriority_within (r := r) within
        exact queues ((answerQueueDefect_asked named asked kind).trans (if_pos state))
      · refine queues ((answerQueueDefect_asked named (askedPriority_eq asked) kind).trans ?_)
        rw [if_neg (not_not.mpr state), recordBytes_enqueue named.found]
    · simp only [answerWaiveDefect, withDefect_names named, state]
    · simp only [answerWaiveDefect, withDefect_names named, state]
      rfl
    · simp only [answerWaiveDefect, withDefect_names named, state]
      rfl
    · exact State.gives_of (.requeueDefect id priority) (fun _ => rfl) rfl (answerRequeueDefect_above named above)
    · intro priority
      have requeues {d : Device} {status : Status} {body : List Byte}
          (h : answerRequeueDefect id priority s.dev = (d, ⟨status, body⟩)) :
          s.Gives (.requeueDefect · id priority) .requeueDefect d status body :=
        State.gives_of (.requeueDefect id priority) (fun _ => rfl) rfl h
      refine ⟨fun old state => requeues (answerRequeueDefect_queued named state), fun q station state => requeues ?_,
        fun state => requeues (answerRequeueDefect_unqueued named state)⟩
      simp only [answerRequeueDefect, withDefect_names named, priority, Priority.ofCode_byte, state]
      rfl
  · refine ⟨fun bad => State.gives_of (.setDefectPolicy kind threshold) (fun _ => rfl) rfl
      (answerSetDefectPolicy_refused bad), fun k known within gap => ?_⟩
    exact State.gives_of (.setDefectPolicy kind threshold) (fun _ => rfl) rfl (answerSetDefectPolicy_set known within gap)

end Sys2Proof.Machine
end

section
/-! The Repair Queue Manager: stations, work and its undoing (R124 to R130, R132, R133). -/

namespace Sys2Proof.Machine

theorem byte_toNat {n : Nat} (below : n < 8) : (BitVec.ofNat 8 n).toNat = n := by
  rw [BitVec.toNat_ofNat]
  omega

section
variable {d : Device} {n : Nat} {e : Entry} {r : Defect} {p : Priority}

theorem Device.priorityOf_assigned (found : d.findDefect e.defect = some r) (assigned : r.state = .assigned p n) :
    d.priorityOf e.defect = p := by
  rw [Device.priorityOf, found, Option.bind_some, assigned]
  rfl

/-! ### SET_STATION (R125) -/

/-- The eighth bit of a mask byte, which names no kind of work. -/
theorem getLsbD_seven (mask : Byte) : mask.getLsbD 7 = decide (127 < mask.toNat) :=
  (BitVec.msb_eq_getLsbD_last mask).symm.trans (BitVec.msb_eq_decide mask)

theorem narrow_mask {mask : Byte} (within : mask.toNat ≤ 127) : ¬ mask.getLsbD 7 = true := by
  rw [getLsbD_seven, decide_eq_true_eq]
  exact Nat.not_lt.mpr within

theorem u8_mask {mask : Byte} (within : mask.toNat ≤ 127) : u8 (mask.setWidth 7).toNat = [mask] := by
  refine congrArg ([·]) (BitVec.eq_of_toNat_eq ?_)
  rw [BitVec.toNat_ofNat, BitVec.toNat_setWidth]
  omega

theorem Station.bytes_offline {mask : Byte} (within : mask.toNat ≤ 127) :
    (⟨.offline, mask.setWidth 7⟩ : Station).bytes = u8 0 ++ [mask] ++ u8 0 ++ u16 65535 := by
  rw [Station.bytes, u8_mask within]
  rfl

theorem Station.bytes_idle {mask : Byte} (within : mask.toNat ≤ 127) :
    (⟨.idle, mask.setWidth 7⟩ : Station).bytes = u8 1 ++ [mask] ++ u8 1 ++ u16 65535 := by
  rw [Station.bytes, u8_mask within]
  rfl

theorem Station.bytes_working {mask : Byte} (within : mask.toNat ≤ 127) (e : Entry) :
    (⟨.working e, mask.setWidth 7⟩ : Station).bytes = u8 1 ++ [mask] ++ u8 2 ++ u16 e.defect := by
  have atWork : flag (decide (StationState.working e ≠ .offline)) = u8 1 := by simp [flag]
  rw [Station.bytes, atWork, u8_mask within]
  rfl

theorem answerSetStation_refused {x enabled mask : Byte} (bad : 7 < x.toNat ∨ 1 < enabled.toNat ∨ 127 < mask.toNat) :
    answerSetStation x enabled mask d = refuse .badValue d := by
  rw [answerSetStation]
  split
  · rfl
  have within : x.toNat ≤ 7 := Nat.not_lt.mp ‹_›
  by_cases flagged : enabled.toNat ≤ 1
  · rw [yesNo_within flagged]
    have wide : mask.getLsbD 7 = true := by
      rw [getLsbD_seven, decide_eq_true_eq]
      omega
    simp only [if_pos wide]
  · rw [yesNo_above (by omega)]

/-- A valid SET_STATION on a station that is WORKING keeps its work, or hands it back (R125). -/
theorem answerSetStation_on_working (below : n < 8) (working : (d.station n).state = .working e) {mask : Byte}
    (within : mask.toNat ≤ 127) :
    answerSetStation (BitVec.ofNat 8 n) 1 mask d =
      (d.setStation n ⟨.working e, mask.setWidth 7⟩, ⟨.ok, u8 1 ++ [mask] ++ u8 2 ++ u16 e.defect ++ u16 65535⟩) := by
  have on : yesNo 1 = some true := rfl
  simp only [answerSetStation, byte_toNat below, if_neg (Nat.not_lt.mpr (Nat.le_of_lt_succ below)), on,
    if_neg (narrow_mask within), working, Station.bytes_working within]
  rfl

theorem answerSetStation_off_working (below : n < 8) (working : (d.station n).state = .working e) {mask : Byte}
    (within : mask.toNat ≤ 127) :
    answerSetStation (BitVec.ofNat 8 n) 0 mask d =
      (d.handBack n e ⟨.offline, mask.setWidth 7⟩, ⟨.ok, u8 0 ++ [mask] ++ u8 0 ++ u16 65535 ++ u16 e.defect⟩) := by
  have off : yesNo 0 = some false := rfl
  simp only [answerSetStation, byte_toNat below, if_neg (Nat.not_lt.mpr (Nat.le_of_lt_succ below)), off,
    if_neg (narrow_mask within), working, Station.bytes_offline within]
  rfl

theorem answerSetStation_on (below : n < 8) (free : (d.station n).state = .idle ∨ (d.station n).state = .offline)
    {mask : Byte} (within : mask.toNat ≤ 127) :
    answerSetStation (BitVec.ofNat 8 n) 1 mask d =
      (d.setStation n ⟨.idle, mask.setWidth 7⟩, ⟨.ok, u8 1 ++ [mask] ++ u8 1 ++ u16 65535 ++ u16 65535⟩) := by
  have on : yesNo 1 = some true := rfl
  obtain state | state := free <;>
  · simp only [answerSetStation, byte_toNat below, if_neg (Nat.not_lt.mpr (Nat.le_of_lt_succ below)), on,
      if_neg (narrow_mask within), state, if_true, Station.bytes_idle within]
    rfl

theorem answerSetStation_off (below : n < 8) (free : (d.station n).state = .idle ∨ (d.station n).state = .offline)
    {mask : Byte} (within : mask.toNat ≤ 127) :
    answerSetStation (BitVec.ofNat 8 n) 0 mask d =
      (d.setStation n ⟨.offline, mask.setWidth 7⟩, ⟨.ok, u8 0 ++ [mask] ++ u8 0 ++ u16 65535 ++ u16 65535⟩) := by
  have off : yesNo 0 = some false := rfl
  obtain state | state := free <;>
  · simp only [answerSetStation, byte_toNat below, if_neg (Nat.not_lt.mpr (Nat.le_of_lt_succ below)), off,
      if_neg (narrow_mask within), state, Bool.false_eq_true, if_false, Station.bytes_offline within]
    rfl

/-! ### TAKE_WORK (R126) -/

section
variable {q : Repair} {mask : BitVec 7}

theorem Repair.select_unfit (unfit : ∀ p, ∀ e ∈ q.queues.get p, ¬ mask.getLsbD e.kind.code = true) :
    q.select mask = none := by
  refine List.findSome?_eq_none_iff.mpr fun p _ => ?_
  rw [List.find?_eq_none.mpr (unfit p)]
  rfl

/-- P3 is searched first, so the queues before one's own are those of the higher priorities. -/
theorem Priority.searched (p : Priority) :
    ∃ higher lower, [Priority.p3, .p2, .p1, .p0] = higher ++ p :: lower ∧ ∀ x ∈ higher, p.code < x.code := by
  cases p with
  | p0 => exact ⟨[.p3, .p2, .p1], [], rfl, by decide⟩
  | p1 => exact ⟨[.p3, .p2], [.p0], rfl, by decide⟩
  | p2 => exact ⟨[.p3], [.p1, .p0], rfl, by decide⟩
  | p3 => exact ⟨[], [.p2, .p1, .p0], rfl, by decide⟩

theorem Repair.select_first {before after : List Entry}
    (higher : ∀ x : Priority, p.code < x.code → ∀ y ∈ q.queues.get x, ¬ mask.getLsbD y.kind.code = true)
    (held : q.queues.get p = before ++ e :: after) (passed : ∀ x ∈ before, ¬ mask.getLsbD x.kind.code = true)
    (fits : mask.getLsbD e.kind.code = true) : q.select mask = some (p, e) := by
  obtain ⟨above, below, searched, higher'⟩ := p.searched
  have here : (q.queues.get p).find? (fun x => mask.getLsbD x.kind.code) = some e := by
    rw [held]
    exact find?_first passed fits
  have unfit : above.findSome? (fun x => ((q.queues.get x).find? fun y => mask.getLsbD y.kind.code).map fun y => (x, y))
      = none := by
    refine List.findSome?_eq_none_iff.mpr fun x hx => ?_
    rw [List.find?_eq_none.mpr (higher x (higher' x hx))]
    rfl
  rw [Repair.select, searched, List.findSome?_append, unfit, Option.none_or, List.findSome?_cons, here]
  rfl

end

theorem answerTakeWork_above {x : Byte} (above : 7 < x.toNat) : answerTakeWork x d = refuse .badValue d := if_pos above

theorem answerTakeWork_offline (below : n < 8) (state : (d.station n).state = .offline) :
    answerTakeWork (BitVec.ofNat 8 n) d = refuse .wrongState d := by
  simp only [answerTakeWork, byte_toNat below, if_neg (Nat.not_lt.mpr (Nat.le_of_lt_succ below)), state]

theorem answerTakeWork_working (below : n < 8) (state : (d.station n).state = .working e) :
    answerTakeWork (BitVec.ofNat 8 n) d = refuseWith .busy (u16 e.defect) d := by
  simp only [answerTakeWork, byte_toNat below, if_neg (Nat.not_lt.mpr (Nat.le_of_lt_succ below)), state]

theorem answerTakeWork_nothing (below : n < 8) (state : (d.station n).state = .idle)
    (none' : d.rq.select (d.station n).mask = none) : answerTakeWork (BitVec.ofNat 8 n) d = refuse .nothing d := by
  simp only [answerTakeWork, byte_toNat below, if_neg (Nat.not_lt.mpr (Nat.le_of_lt_succ below)), state, none']

theorem answerTakeWork_taken (below : n < 8) (state : (d.station n).state = .idle)
    (some' : d.rq.select (d.station n).mask = some (p, e)) (found : d.findDefect e.defect = some r) :
    answerTakeWork (BitVec.ofNat 8 n) d =
      (((d.dropEntry p e.defect).setStation n ⟨.working e, (d.station n).mask⟩).setDefect e.defect
          fun x => { x with state := .assigned p n },
        ⟨.ok, ({ r with state := .assigned p n } : Defect).bytes⟩) := by
  simp only [answerTakeWork, byte_toNat below, if_neg (Nat.not_lt.mpr (Nat.le_of_lt_succ below)), state, some']
  rw [recordBytes_found (Device.findDefect_setDefect
    (d := (d.dropEntry p e.defect).setStation n ⟨.working e, (d.station n).mask⟩)
    (f := fun x => { x with state := .assigned p n }) (fun _ => rfl) found)]

end

/-- Settles O42. -/
theorem stationsTakeWork : Obligations.StationsTakeWork := by
  intro n s below station st
  have sets (enabled mask : Byte) {d : Device} {status : Status} {body : List Byte}
      (h : answerSetStation station enabled mask s.dev = (d, ⟨status, body⟩)) :
      s.Gives (.setStation · station enabled mask) .setStation d status body :=
    State.gives_of (.setStation station enabled mask) (fun _ => rfl) rfl h
  have takes {d : Device} {status : Status} {body : List Byte}
      (h : answerTakeWork station s.dev = (d, ⟨status, body⟩)) : s.Gives (.takeWork · station) .takeWork d status body :=
    State.gives_of (.takeWork station) (fun _ => rfl) rfl h
  refine ⟨fun x enabled mask bad => State.gives_of (.setStation x enabled mask) (fun _ => rfl) rfl
      (answerSetStation_refused bad), fun mask within => ?_,
    fun x above => State.gives_of (.takeWork x) (fun _ => rfl) rfl (answerTakeWork_above above),
    fun state => takes (answerTakeWork_offline below state), fun e state => takes (answerTakeWork_working below state),
    fun state => ?_⟩
  · refine ⟨fun e working => ⟨sets 1 mask (answerSetStation_on_working below working within), fun r p found assigned => ?_⟩,
      fun free => ⟨sets 1 mask (answerSetStation_on below free within), sets 0 mask (answerSetStation_off below free within)⟩⟩
    have answer := answerSetStation_off_working below working within
    rw [Device.handBack, Device.priorityOf_assigned found assigned] at answer
    exact sets 0 mask answer
  · intro fits
    refine ⟨fun unfit => takes (answerTakeWork_nothing below state (Repair.select_unfit unfit)),
      fun p before after e r higher held passed fit found => ?_⟩
    have selected : s.dev.rq.select st.mask = some (p, e) :=
      Repair.select_first higher held (fun x hx => (passed x hx).1) fit
    have dropped : (s.dev.rq.queues.get p).eraseP (fun x => decide (x.defect = e.defect)) = before ++ after := by
      rw [held]
      exact eraseP_first (fun x hx => by simpa using (passed x hx).2) (by simp)
    have answer := answerTakeWork_taken below state selected found
    rw [Device.dropEntry, dropped] at answer
    exact takes answer

/-! ### RETURN_WORK and COMPLETE_WORK (R127 to R130, R132) -/

section
variable {d : Device} {n : Nat} {station : Byte} {defect : BitVec 16} {bad : Bool}
  {f : Nat → Station → Entry → Device × Answer}

theorem withHeld_badValue (out : 7 < station.toNat ∨ 1023 < defect.toNat ∨ bad = true) :
    withHeld station defect bad d f = refuse .badValue d := by
  rw [withHeld]
  by_cases noStation : 7 < station.toNat
  · exact if_pos noStation
  rw [if_neg noStation]
  by_cases noDefect : 1023 < defect.toNat
  · exact if_pos noDefect
  rw [if_neg noDefect]
  exact if_pos ((out.resolve_left noStation).resolve_left noDefect)

theorem withHeld_held {e : Entry} (below : n < 8) (within : defect.toNat ≤ 1023)
    (working : (d.station n).state = .working e) (same : e.defect = defect.toNat) :
    withHeld (BitVec.ofNat 8 n) defect false d f = f n (d.station n) e := by
  simp only [withHeld, byte_toNat below, if_neg (Nat.not_lt.mpr (Nat.le_of_lt_succ below)),
    if_neg (Nat.not_lt.mpr within), Bool.false_eq_true, if_false, working, if_pos same]

theorem withHeld_tooLate (below : n < 8) (within : defect.toNat ≤ 1023)
    (other : ∀ e, (d.station n).state = .working e → e.defect ≠ defect.toNat) :
    withHeld (BitVec.ofNat 8 n) defect false d f = refuseWith .tooLate (d.station n).holding d := by
  simp only [withHeld, byte_toNat below, if_neg (Nat.not_lt.mpr (Nat.le_of_lt_succ below)),
    if_neg (Nat.not_lt.mpr within), Bool.false_eq_true, if_false]
  split
  · exact if_neg (other _ ‹_›)
  · rfl
  · rfl

theorem answerReturnWork_badValue (out : 7 < station.toNat ∨ 1023 < defect.toNat) :
    answerReturnWork station defect d = refuse .badValue d :=
  withHeld_badValue (out.imp_right .inl)

theorem answerCompleteWork_badValue {outcome : Byte}
    (out : 7 < station.toNat ∨ 1023 < defect.toNat ∨ 1 < outcome.toNat) :
    answerCompleteWork station defect outcome d = refuse .badValue d :=
  withHeld_badValue (out.imp_right (.imp_right decide_eq_true))

section
variable (below : n < 8) (within : defect.toNat ≤ 1023)
  (other : ∀ e, (d.station n).state = .working e → e.defect ≠ defect.toNat)
include below within other

theorem answerReturnWork_tooLate :
    answerReturnWork (BitVec.ofNat 8 n) defect d = refuseWith .tooLate (d.station n).holding d :=
  withHeld_tooLate below within other

theorem answerCompleteWork_tooLate {outcome : Byte} (known : outcome.toNat ≤ 1) :
    answerCompleteWork (BitVec.ofNat 8 n) defect outcome d = refuseWith .tooLate (d.station n).holding d := by
  rw [answerCompleteWork, decide_eq_false (Nat.not_lt.mpr known)]
  exact withHeld_tooLate below within other

end

section
variable {e : Entry} {r : Defect} {p : Priority} (below : n < 8) (within : defect.toNat ≤ 1023)
  (working : (d.station n).state = .working e) (same : e.defect = defect.toNat)
  (found : d.findDefect e.defect = some r) (assigned : r.state = .assigned p n)

/-- The record that a change of the defect in hand leaves, whatever else changes with it. -/
theorem recordBytes_changed {d' : Device} {f : Defect → Defect} (keeps : ∀ x, (f x).id = x.id)
    (dm : d'.dm = (d.setDefect e.defect f).dm) (found : d.findDefect e.defect = some r) :
    recordBytes d' e.defect = (f r).bytes := by
  refine recordBytes_found (Eq.trans ?_ (Device.findDefect_setDefect keeps found))
  rw [Device.findDefect, dm]
  rfl

include below within working same found assigned

theorem answerReturnWork_held :
    answerReturnWork (BitVec.ofNat 8 n) defect d =
      (((d.frontEntry p e).setStation n ⟨.idle, (d.station n).mask⟩).setDefect e.defect fun x => { x with state := .queued p },
        ⟨.ok, ({ r with state := .queued p } : Defect).bytes⟩) := by
  rw [answerReturnWork, withHeld_held below within working same, Device.handBack,
    Device.priorityOf_assigned found assigned]
  exact Prod.ext rfl (congrArg (Answer.mk _)
    (recordBytes_changed (f := fun x => { x with state := .queued p }) (fun _ => rfl) rfl found))

theorem answerCompleteWork_repaired :
    answerCompleteWork (BitVec.ofNat 8 n) defect 0 d =
      ({ (d.setStation n ⟨.idle, (d.station n).mask⟩).setDefect e.defect (fun x => { x with state := .repaired }) with
          rq.undo := { defect := e.defect, station := n, priority := p } :: d.rq.undo.take 15 },
        ⟨.ok, ({ r with state := .repaired } : Defect).bytes⟩) := by
  refine (withHeld_held below within working same).trans ?_
  rw [if_pos rfl, Device.completeRepaired, Device.priorityOf_assigned found assigned]
  exact Prod.ext rfl (congrArg (Answer.mk _)
    (recordBytes_changed (f := fun x => { x with state := .repaired }) (fun _ => rfl) rfl found))

omit assigned in
theorem answerCompleteWork_unrepairable :
    answerCompleteWork (BitVec.ofNat 8 n) defect 1 d =
      ((d.setStation n ⟨.idle, (d.station n).mask⟩).setDefect e.defect
          (fun x => { x with state := .waived, detail := 65535 }),
        ⟨.ok, ({ r with state := .waived, detail := 65535 } : Defect).bytes⟩) := by
  refine (withHeld_held below within working same).trans ?_
  rw [if_neg (show ¬ (1 : Byte) = 0 by decide), Device.completeUnrepairable]
  exact Prod.ext rfl (congrArg (Answer.mk _)
    (recordBytes_changed (f := fun x => { x with state := .waived, detail := 65535 }) (fun _ => rfl) rfl found))

end

end

/-! ### UNDO_REPAIR (R133) -/

section
variable {d : Device} {u : UndoRecord} {rest : List UndoRecord}

theorem answerUndoRepair_nothing (none' : d.rq.undo = []) : answerUndoRepair d = refuse .nothing d := by
  simp only [answerUndoRepair, none']

theorem answerUndoRepair_full (top : d.rq.undo = u :: rest) (full : 192 ≤ d.rq.occupancy) :
    answerUndoRepair d = refuseWith .full u.bytes d := by
  simp only [answerUndoRepair, top, if_pos full]

theorem answerUndoRepair_undone {r : Defect} (top : d.rq.undo = u :: rest) (room : d.rq.occupancy < 192)
    (found : d.findDefect u.defect = some r) :
    answerUndoRepair d =
      ((({ d with rq.undo := rest } : Device).frontEntry u.priority ⟨u.defect, r.kind⟩).setDefect u.defect
          fun x => { x with state := .queued u.priority, refused := false },
        ⟨.ok, u.bytes ++ ({ r with state := .queued u.priority, refused := false } : Defect).bytes⟩) := by
  simp only [answerUndoRepair, top, if_neg (Nat.not_le.mpr room), found, Option.map_some, Option.getD_some]
  rw [recordBytes_found (Device.findDefect_setDefect
    (d := ({ d with rq.undo := rest } : Device).frontEntry u.priority ⟨u.defect, r.kind⟩)
    (f := fun x => { x with state := .queued u.priority, refused := false }) (fun _ => rfl) found)]

end

/-- Settles O43. -/
theorem workIsReturnedCompletedAndUndone : Obligations.WorkIsReturnedCompletedAndUndone := by
  refine ⟨⟨fun tag station outcome defect s unknown => ?_, fun station defect s out => ?_, fun n defect s below within => ?_⟩,
    fun s => ?_⟩
  · have refused (d : Device) : carryOut s.link (.completeWork station defect outcome) d = (d, ⟨.badValue, []⟩) :=
      answerCompleteWork_badValue (.inr (.inr unknown))
    refine ⟨refused s.dev, fun ready on => (requestFrameIsReadBack tag (.completeWork station defect outcome) s ready on).trans
      ?_⟩
    simp only [refused]
    rfl
  · exact ⟨State.gives_of (.returnWork station defect) (fun _ => rfl) rfl (answerReturnWork_badValue out),
      State.gives_of (.completeWork station defect 0) (fun _ => rfl) rfl
        (answerCompleteWork_badValue (out.imp_right .inl)),
      State.gives_of (.completeWork station defect 1) (fun _ => rfl) rfl
        (answerCompleteWork_badValue (out.imp_right .inl))⟩
  · intro station st idle
    refine ⟨fun other => ?_, fun e r p working same found assigned =>
      ⟨State.gives_of (.returnWork station defect) (fun _ => rfl) rfl
          (answerReturnWork_held below within working same found assigned),
        State.gives_of (.completeWork station defect 0) (fun _ => rfl) rfl
          (answerCompleteWork_repaired below within working same found assigned),
        State.gives_of (.completeWork station defect 1) (fun _ => rfl) rfl
          (answerCompleteWork_unrepairable below within working same found)⟩⟩
    intro body
    have holding : st.holding = body := by
      simp only [Station.holding, body]
      cases st.state <;> rfl
    rw [← holding]
    exact ⟨State.gives_of (.returnWork station defect) (fun _ => rfl) rfl (answerReturnWork_tooLate below within other),
      State.gives_of (.completeWork station defect 0) (fun _ => rfl) rfl
        (answerCompleteWork_tooLate below within other (by decide)),
      State.gives_of (.completeWork station defect 1) (fun _ => rfl) rfl
        (answerCompleteWork_tooLate below within other (by decide))⟩
  · intro held
    have occupancy : s.dev.rq.occupancy = held := Repair.occupancy_eq s.dev.rq
    have undoes {d : Device} {status : Status} {body : List Byte} (h : answerUndoRepair s.dev = (d, ⟨status, body⟩)) :
        s.Gives (.undoRepair ·) .undoRepair d status body :=
      State.gives_of .undoRepair (fun _ => rfl) rfl h
    refine ⟨fun none' => undoes (answerUndoRepair_nothing none'), fun u rest top => ⟨fun full => ?_, fun r room found => ?_⟩⟩
    · exact undoes (answerUndoRepair_full top (occupancy ▸ full))
    · exact undoes (answerUndoRepair_undone top (occupancy ▸ room) found)

end Sys2Proof.Machine
end

section
/-! The Grading Unit: shots, rules, the resolution of a grade, and statistics (R140 to R150); and the posting of a
notice (R160). -/

namespace Sys2Proof.Machine

/-! ### Shots (R140 to R143) -/

section
variable {α : Type} (before after : List α) (x y : α)

theorem modify_at (f : α → α) : (before ++ x :: after).modify before.length f = before ++ f x :: after := by
  induction before with
  | nil => rfl
  | cons a before ih => exact congrArg (a :: ·) ih

theorem insertIdx_after : (before ++ x :: after).insertIdx (before.length + 1) y = before ++ x :: y :: after := by
  induction before with
  | nil => rfl
  | cons a before ih => exact congrArg (a :: ·) ih

theorem eraseIdx_after : (before ++ x :: y :: after).eraseIdx (before.length + 1) = before ++ x :: after := by
  rw [List.eraseIdx_append_of_length_le (Nat.le_add_right _ 1), Nat.add_sub_cancel_left]
  rfl

theorem getElem?_at : (before ++ x :: after)[before.length]? = some x := by
  rw [List.getElem?_append_right le_rfl, Nat.sub_self]
  rfl

theorem getElem?_next : (before ++ x :: after)[before.length + 1]? = after.head? := by
  rw [List.getElem?_append_right (Nat.le_add_right _ 1), Nat.add_sub_cancel_left, List.head?_eq_getElem?]
  rfl

end

section
variable {before after : List Shot} {x : Shot} {frame : Nat} {g : Grading}

/-- In ascending shots, the shot that holds a frame stands after those that begin before it. -/
theorem Grading.shotIndex_eq (shots : g.shots = before ++ x :: after) (early : ∀ y ∈ before, y.first ≤ frame)
    (begun : x.first ≤ frame) (late : ∀ y ∈ after, frame < y.first) : g.shotIndex frame = before.length := by
  have all : before.countP (fun y => decide (y.first ≤ frame)) = before.length :=
    List.countP_eq_length.mpr fun y hy => decide_eq_true (early y hy)
  have none' : after.countP (fun y => decide (y.first ≤ frame)) = 0 :=
    List.countP_eq_zero.mpr fun y hy => by simpa using late y hy
  rw [Grading.shotIndex, shots, List.countP_append, List.countP_cons, all, none', if_pos (decide_eq_true begun)]
  omega

theorem Grading.lastFrame_eq (shots : g.shots = before ++ x :: after) (length : Nat) :
    g.lastFrame length before.length = (after.head?.map (·.first - 1)).getD (length - 1) := by
  rw [Grading.lastFrame, shots, getElem?_next]
  cases after <;> rfl

end

section
variable {d : Device} {r : Reel} {before after : List Shot} {x : Shot} {frame : Nat} {ref : FrameRef} {label : BitVec 32}

theorem Device.reelLength_eq (loaded : d.loadedReel = some r) : d.reelLength = r.length := by
  rw [Device.reelLength, loaded]
  rfl

theorem Device.lastFrame_setShots {shots : List Shot} (e : shots = before ++ x :: after) (loaded : d.loadedReel = some r) :
    (d.setShots shots).gu.lastFrame (d.setShots shots).reelLength before.length
      = (after.head?.map (·.first - 1)).getD (r.length - 1) := by
  rw [Device.reelLength_eq (d := d.setShots shots) loaded]
  exact Grading.lastFrame_eq e _

/-- DEFINE_SHOT at a frame that a shot holds (R141). -/
theorem answerDefineShot_held (resolved : d.resolve ref = .ok frame) (loaded : d.loadedReel = some r)
    (shots : d.gu.shots = before ++ x :: after) (early : ∀ y ∈ before, y.first ≤ frame) (begun : x.first ≤ frame)
    (late : ∀ y ∈ after, frame < y.first) :
    answerDefineShot ref label d =
      (let last := (after.head?.map (·.first - 1)).getD (r.length - 1)
       let new : Shot := { first := frame, label := label, snapshot := none, clipRisk := 0 }
       if x.snapshot.isSome then refuse .locked d
       else if x.first = frame then
        (d.setShots (before ++ { x with label := label } :: after), ⟨.ok, u16 before.length ++ u16 frame ++ u16 last⟩)
       else if 512 ≤ d.gu.shots.length then refuse .full d
       else
        (d.setShots (before ++ x :: new :: after), ⟨.ok, u16 (before.length + 1) ++ u16 frame ++ u16 last⟩)) := by
  have split (new : Shot) := Device.lastFrame_setShots (d := d) (before := before ++ [x]) (x := new) (after := after) rfl loaded
  simp only [List.append_assoc, List.singleton_append, List.length_append, List.length_singleton] at split
  rw [answerDefineShot, withFrame_ok resolved]
  simp only [Grading.shotIndex_eq shots early begun late, shots, getElem?_at, modify_at, insertIdx_after,
    Device.lastFrame_setShots (d := d) (x := { x with label := label }) rfl loaded, split]

/-- DELETE_SHOT on a shot with one before it (R142). -/
theorem answerDeleteShot_after {y : Shot} {index : BitVec 16} (named : d.NamesShot index x) (loaded : d.loadedReel = some r)
    (shots : d.gu.shots = before ++ y :: x :: after) (place : index.toNat = before.length + 1) :
    answerDeleteShot index d =
      if x.snapshot.isSome ∨ y.snapshot.isSome then refuse .locked d
      else (d.setShots (before ++ y :: after),
        ⟨.ok, u16 before.length ++ u16 ((after.head?.map (·.first - 1)).getD (r.length - 1))⟩) := by
  rw [answerDeleteShot, withShot_names named]
  simp only [place, Nat.succ_ne_zero, if_false, Nat.add_sub_cancel, shots, getElem?_at, Option.any_some, eraseIdx_after,
    Device.lastFrame_setShots (d := d) (x := y) rfl loaded]

theorem answerDeleteShot_first {index : BitVec 16} (named : d.NamesShot index x) (first : index = 0) :
    answerDeleteShot index d = refuse .badValue d := by
  rw [answerDeleteShot, withShot_names named]
  exact if_pos (by rw [first]; rfl)

theorem modify_named {index : BitVec 16} (named : d.NamesShot index x) (f : Shot → Shot) :
    d.gu.shots.modify index.toNat f = d.gu.shots.set index.toNat (f x) := by
  obtain ⟨-, -, found⟩ := named
  rw [List.modify_eq_set_getElem?, found]
  rfl

theorem answerLockShot_locked {index : BitVec 16} (named : d.NamesShot index x) (locked : x.snapshot.isSome) :
    answerLockShot index d = refuse .wrongState d := by
  rw [answerLockShot, withShot_names named, if_pos locked]

theorem answerLockShot_unlocked {index : BitVec 16} (named : d.NamesShot index x) (unlocked : x.snapshot = none) :
    answerLockShot index d =
      (d.setShots (d.gu.shots.set index.toNat { x with snapshot := some (d.gradeOfLabel x.label) }),
        ⟨.ok, gradeBytes (d.gradeOfLabel x.label)⟩) := by
  rw [answerLockShot, withShot_names named, if_neg (by simp [unlocked])]
  simp only [modify_named named]

theorem answerUnlockShot_locked {index : BitVec 16} (named : d.NamesShot index x) (locked : x.snapshot.isSome) :
    answerUnlockShot index d = (d.setShots (d.gu.shots.set index.toNat { x with snapshot := none }), ⟨.ok, []⟩) := by
  rw [answerUnlockShot, withShot_names named, if_neg (by simp [Option.isNone_iff_eq_none, Option.isSome_iff_ne_none.mp locked]),
    modify_named named]

theorem answerUnlockShot_unlocked {index : BitVec 16} (named : d.NamesShot index x) (unlocked : x.snapshot = none) :
    answerUnlockShot index d = refuse .wrongState d := by
  rw [answerUnlockShot, withShot_names named, if_pos (by simp [unlocked])]

end

/-- Settles O44. -/
theorem shotsAreDefinedDeletedAndLocked : Obligations.ShotsAreDefinedDeletedAndLocked := by
  refine ⟨⟨fun ref label s e unresolved => State.gives_of (.defineShot ref label) (fun _ => rfl) rfl
        (withFrame_error unresolved _), ?_, fun index x s named => ⟨fun first => State.gives_of (.deleteShot index)
          (fun _ => rfl) rfl (answerDeleteShot_first named first), ?_⟩⟩, fun index x s named =>
    ⟨fun locked => ⟨State.gives_of (.lockShot index) (fun _ => rfl) rfl (answerLockShot_locked named locked),
        State.gives_of (.unlockShot index) (fun _ => rfl) rfl (answerUnlockShot_locked named locked)⟩,
      fun unlocked => ⟨State.gives_of (.unlockShot index) (fun _ => rfl) rfl (answerUnlockShot_unlocked named unlocked),
        State.gives_of (.lockShot index) (fun _ => rfl) rfl (answerLockShot_unlocked named unlocked)⟩,
      fun g snapshot => by rw [Device.gradeOfShot, snapshot]; rfl⟩⟩
  · intro ref label frame r before after x s resolved loaded shots early begun late c last
    have ends : (after.head?.map (·.first - 1)).getD (r.length - 1) = last := by cases after <;> rfl
    have answer := answerDefineShot_held (label := label) resolved loaded shots early begun late
    rw [ends] at answer
    have gives {d : Device} {status : Status} {body : List Byte}
        (h : answerDefineShot ref label s.dev = (d, ⟨status, body⟩)) : s.Gives c .defineShot d status body :=
      State.gives_of (.defineShot ref label) (fun _ => rfl) rfl h
    refine ⟨fun locked => gives (answer.trans (if_pos locked)), fun unlocked starts => gives ?_,
      fun unlocked within full => gives ?_, fun unlocked within room => gives ?_⟩
    · simp only [answer, unlocked, Option.isSome_none, Bool.false_eq_true, if_false, if_pos starts]
      rfl
    · simp only [answer, unlocked, Option.isSome_none, Bool.false_eq_true, if_false, if_neg within, if_pos full]
      rfl
    · simp only [answer, unlocked, Option.isSome_none, Bool.false_eq_true, if_false, if_neg within,
        if_neg (Nat.not_le.mpr room)]
      rfl
  · intro before after y r loaded shots place
    have answer := answerDeleteShot_after named loaded shots place
    refine ⟨fun locked => State.gives_of (.deleteShot index) (fun _ => rfl) rfl (answer.trans (if_pos locked)),
      fun unlocked before' => State.gives_of (.deleteShot index) (fun _ => rfl) rfl (answer.trans ?_)⟩
    rw [if_neg (by simp [unlocked, before'])]
    cases after <;> rfl

/-! ### Postings (R160) -/

/-- Settles O48. -/
theorem postingsCoalesceAppendOrOverflow : Obligations.PostingsCoalesceAppendOrOverflow := by
  intro kind subject detail d
  have is_iff (n : Notice) : n.is kind subject = true ↔ n.kind = kind ∧ n.subject = subject := by simp [Notice.is]
  have any_iff : d.nl.notices.any (·.is kind subject) = true ↔ ∃ n ∈ d.nl.notices, n.kind = kind ∧ n.subject = subject := by
    simp only [List.any_eq_true, is_iff]
  refine ⟨fun held => ?_, fun unheld => ?_⟩
  · simp only [Device.post, NoticeList.post, if_pos (any_iff.mpr held), is_iff, bump8_eq_min]
  · have new : ¬ d.nl.notices.any (·.is kind subject) = true := fun held => by
      obtain ⟨n, hn, same⟩ := any_iff.mp held
      exact unheld n hn same
    refine ⟨fun room => ?_, fun full => ?_⟩
    · simp only [Device.post, NoticeList.post, if_neg new, if_pos room]
    · simp only [Device.post, NoticeList.post, if_neg new, if_neg (Nat.not_lt.mpr full), bump8_eq_min]

end Sys2Proof.Machine
end

section
/-! The Grading Unit: rules, statistics, and the grade that the winning rule gives (R145 to R150, R152). -/

namespace Sys2Proof.Machine

/-! ### SET_RULE (R145) -/

theorem clampInt_eq_self {lo hi n : Int} (h : lo ≤ hi) : clampInt lo hi n = n ↔ lo ≤ n ∧ n ≤ hi := by
  simp only [clampInt]
  omega

/-- A channel of SET_RULE is in range as it was given. -/
def GivenInRange (c : ChannelRuleOperands) : Prop :=
  c.black.toNat ≤ 4095 ∧ c.gain.toNat ≤ 8191 ∧ -512 ≤ c.offset.toInt ∧ c.offset.toInt ≤ 511 ∧ -50 ≤ c.trim.toInt
    ∧ c.trim.toInt ≤ 50

theorem channelClamped_iff (c : ChannelRuleOperands) : channelClamped c = true ↔ ¬ GivenInRange c := by
  rw [channelClamped, decide_eq_true_eq, ne_eq, not_iff_not]
  simp only [storedChannel, ChannelRule.mk.injEq, min_eq_right_iff, clampInt_eq_self (show (-512 : Int) ≤ 511 by decide),
    clampInt_eq_self (show (-50 : Int) ≤ 50 by decide), GivenInRange, and_assoc]

section
variable {d : Device} {op : RuleOperands}

theorem answerSetRule_refused (bad : 31 < op.rule.toNat ∨ 32 < op.length.toNat ∨ yesNo op.enabled = none
    ∨ FadeMode.ofCode op.fadeMode.toNat = none ∨ yesNo op.exclude = none) :
    answerSetRule op d = refuse .badValue d := by
  rw [answerSetRule]
  split
  · rfl
  · split
    · rename_i enabled fadeMode exclude
      simp [enabled, fadeMode, exclude] at bad
      omega
    · rfl

/-- The rule that a valid SET_RULE stores. -/
def storedRule (op : RuleOperands) (enabled : Bool) (fadeMode : FadeMode) (exclude : Bool) : Rule :=
  { enabled, key := op.key, length := op.length.toNat, channels := op.channels.map storedChannel, fadeMode
    fixedFade := clampInt (-400) 400 op.fixedFade.toInt, fadeGain := min 16 op.fadeGain.toNat, exclude }

theorem answerSetRule_valid {enabled exclude : Bool} {fadeMode : FadeMode} (index : op.rule.toNat ≤ 31)
    (length : op.length.toNat ≤ 32) (hEnabled : yesNo op.enabled = some enabled)
    (hFadeMode : FadeMode.ofCode op.fadeMode.toNat = some fadeMode) (hExclude : yesNo op.exclude = some exclude) :
    answerSetRule op d =
      (let r := storedRule op enabled fadeMode exclude
       ({ d with gu.rules := d.gu.rules.setIfInBounds op.rule.toNat r },
        ⟨okOr (op.channels.any channelClamped || decide (r.fixedFade ≠ op.fixedFade.toInt) || decide (16 < op.fadeGain.toNat)),
          r.bytes op.rule.toNat⟩)) := by
  have valid : ¬ (31 < op.rule.toNat ∨ 32 < op.length.toNat) := by omega
  rw [answerSetRule, if_neg valid, hEnabled, hFadeMode, hExclude]
  rfl

theorem ruleClamped_iff (op : RuleOperands) :
    (op.channels.any channelClamped || decide (clampInt (-400) 400 op.fixedFade.toInt ≠ op.fixedFade.toInt)
      || decide (16 < op.fadeGain.toNat)) = true
    ↔ ¬ (GivenInRange op.channels.red ∧ GivenInRange op.channels.green ∧ GivenInRange op.channels.blue ∧ -400 ≤ op.fixedFade.toInt
      ∧ op.fixedFade.toInt ≤ 400 ∧ op.fadeGain.toNat ≤ 16) := by
  simp only [PerChannel.any, Bool.or_eq_true, channelClamped_iff, decide_eq_true_eq, ne_eq,
    clampInt_eq_self (show (-400 : Int) ≤ 400 by decide), ← Nat.not_le, not_and_or, or_assoc]

theorem answerClearRule_above {n : Byte} (above : 31 < n.toNat) : answerClearRule n d = refuse .badValue d := if_pos above

theorem answerClearRule_valid {n : Byte} (valid : n.toNat ≤ 31) :
    answerClearRule n d = ({ d with gu.rules := d.gu.rules.setIfInBounds n.toNat Rule.cleared }, ⟨.ok, []⟩) :=
  if_neg (Nat.not_lt.mpr valid)

end

/-! ### Statistics (R147, R148) -/

/-- A channel takes a mean density and a base density. -/
theorem FadeChannel.widen_add (window : Nat) (f : FadeChannel) (mean base : Nat) :
    (f.add window base).widen mean =
      (let extremes := match f.extremes with
        | none => some (mean, mean)
        | some (lo, hi) => some (if mean < lo then mean else lo, if hi < mean then mean else hi)
       if f.count + 1 < window then { f with sum := f.sum + base, count := f.count + 1, extremes := extremes }
       else { sum := 0, count := 0, mean := (f.sum + base) / window, valid := true, extremes := extremes }) := by
  have lesser (x : Nat) : min x mean = if mean < x then mean else x := by split <;> omega
  have greater (x : Nat) : max x mean = if x < mean then mean else x := by split <;> omega
  obtain ⟨sum, count, m, valid, extremes⟩ := f
  by_cases few : count + 1 < window
  · cases extremes <;> simp [FadeChannel.add, FadeChannel.widen, few, Nat.not_le.mpr few, lesser, greater]
  · cases extremes <;> simp [FadeChannel.add, FadeChannel.widen, few, Nat.not_lt.mp few, lesser, greater]

/-- Settles O45. -/
theorem rulesFadeWindowAndStatistics : Obligations.RulesFadeWindowAndStatistics := by
  refine ⟨⟨fun op s => ⟨fun bad => State.gives_of (.setRule op) (fun _ => rfl) rfl (answerSetRule_refused bad), ?_⟩,
    fun n s => ⟨fun above => State.gives_of (.clearRule n) (fun _ => rfl) rfl (answerClearRule_above above),
      fun valid => State.gives_of (.clearRule n) (fun _ => rfl) rfl (answerClearRule_valid valid)⟩,
    fun n s => ⟨fun above => State.gives_of (.setFadeWindow n) (fun _ => rfl) rfl (if_pos above),
      fun valid => State.gives_of (.setFadeWindow n) (fun _ => rfl) rfl (if_neg (Nat.not_lt.mpr valid)),
      State.gives_of .clearExtremes (fun _ => rfl) rfl rfl⟩⟩, fun mean base d => ?_⟩
  · intro enabled fadeMode exclude index length hEnabled hFadeMode hExclude range channel asGiven rule status asked
    have stored : storedRule op enabled fadeMode exclude = rule := by
      simp only [storedRule, PerChannel.map, storedChannel, clampInt_eq_ite (show (-400 : Int) ≤ 400 by decide),
        clampInt_eq_ite (show (-512 : Int) ≤ 511 by decide), clampInt_eq_ite (show (-50 : Int) ≤ 50 by decide)]
      rfl
    have clamped := ruleClamped_iff op
    have reported : okOr (op.channels.any channelClamped
        || decide ((storedRule op enabled fadeMode exclude).fixedFade ≠ op.fixedFade.toInt)
        || decide (16 < op.fadeGain.toNat)) = status := by
      obtain ⟨red, green, blue, low, high, gain, rfl⟩ | ⟨out, rfl⟩ := asked
      · exact if_neg (fun h => clamped.mp h ⟨red, green, blue, low, high, gain⟩)
      · exact if_pos (clamped.mpr out)
    refine State.gives_of (.setRule op) (fun _ => rfl) rfl
      ((answerSetRule_valid index length hEnabled hFadeMode hExclude).trans ?_)
    exact Prod.ext (by simp only [stored]) (congrArg₂ Answer.mk reported (by rw [stored]))
  · intro add
    have each (f : FadeChannel) (m b : Nat) : (f.add d.gu.windowFrames b).widen m = add f m b :=
      (f.widen_add _ m b).trans rfl
    simp only [Device.takeStatistics, PerChannel.zipWith, each]

end Sys2Proof.Machine
end

section
/-! The Grading Unit: the winning rule, the grade it gives, and the exclusion question (R140, R146, R150, R152). -/

namespace Sys2Proof.Machine

/-! ### The winning rule (R146) -/

/-- The rule is enabled and its key agrees with the label over its whole length. -/
def Rule.Fits (r : Rule) (label : BitVec 32) : Prop :=
  r.enabled = true ∧ ∀ b < r.length, label.getMsbD b = r.key.getMsbD b

/-- Equal leading bits, counted from the most significant, one by one. -/
theorem leading_eq_iff (n : Nat) (x y : BitVec 32) : leading n x = leading n y ↔ ∀ b < n, x.getMsbD b = y.getMsbD b := by
  constructor
  · intro same b below
    by_cases within : b < 32
    · have bit := congrArg (fun z => BitVec.getMsbD z (b + (32 - n))) same
      simp only [leading, BitVec.getMsbD_ushiftRight, Nat.add_sub_cancel, show b + (32 - n) < 32 by omega,
        show ¬ b + (32 - n) < 32 - n by omega, decide_true, decide_false, Bool.not_false, Bool.true_and] at bit
      exact bit
    · rw [BitVec.getMsbD_of_ge x b (Nat.not_lt.mp within), BitVec.getMsbD_of_ge y b (Nat.not_lt.mp within)]
  · intro same
    refine BitVec.eq_of_getMsbD_eq fun i within => ?_
    simp only [leading, BitVec.getMsbD_ushiftRight]
    by_cases shifted : i < 32 - n
    · simp only [shifted, decide_true, Bool.not_true, Bool.false_and]
    · rw [same (i - (32 - n)) (by omega)]

theorem Rule.matches_iff (r : Rule) (label : BitVec 32) : r.matches label = true ↔ r.Fits label := by
  rw [Rule.matches, Bool.and_eq_true, decide_eq_true_eq, leading_eq_iff, Rule.Fits]

/-- The rule at an index of the list fits, and no rule that fits has a longer key, or as long a one at a higher index. -/
def Wins (rules : List Rule) (label : BitVec 32) (i : Nat) (r : Rule) : Prop :=
  rules[i]? = some r ∧ r.Fits label ∧ ∀ (j : Nat) (x : Rule), rules[j]? = some x → x.Fits label →
    x.length < r.length ∨ (x.length = r.length ∧ j ≤ i)

/-- The winner of a list of rules, as a search of the whole list names it. -/
def winnerOf (rules : List Rule) (label : BitVec 32) : Option (Nat × Rule) :=
  rules.zipIdx.foldl (betterRule label) none

section
variable {rules : List Rule} {label : BitVec 32} {i j : Nat} {r x : Rule}

theorem winnerOf_append (rules : List Rule) (x : Rule) :
    winnerOf (rules ++ [x]) label = betterRule label (winnerOf rules label) (x, rules.length) := by
  simp only [winnerOf, List.zipIdx_append, List.foldl_append, List.zipIdx_singleton, List.foldl_cons, List.foldl_nil,
    Nat.zero_add]

theorem getElem?_append_cases {α : Type} {l : List α} {a b : α} {j : Nat} (h : (l ++ [a])[j]? = some b) :
    l[j]? = some b ∨ (j = l.length ∧ b = a) := by
  rw [List.getElem?_append] at h
  split at h
  · exact .inl h
  · obtain ⟨within, rfl⟩ := List.getElem?_eq_some_iff.mp h
    rw [List.length_singleton] at within
    exact .inr ⟨by omega, by simp⟩

/-- A rule that does not outrank the winner leaves it. -/
theorem Wins.kept (wins : Wins rules label i r) (behind : x.Fits label → x.length < r.length) :
    Wins (rules ++ [x]) label i r := by
  obtain ⟨here, fits, best⟩ := wins
  refine ⟨?_, fits, fun j y there fits' => ?_⟩
  · rw [List.getElem?_append_left (List.getElem?_eq_some_iff.mp here).1, here]
  · obtain there | ⟨rfl, rfl⟩ := getElem?_append_cases there
    · exact best j y there fits'
    · exact .inl (behind fits')

/-- A rule that fits and that none before it exceeds in length wins. -/
theorem wins_last (fits : x.Fits label)
    (longest : ∀ (j : Nat) (y : Rule), rules[j]? = some y → y.Fits label → y.length ≤ x.length) :
    Wins (rules ++ [x]) label rules.length x := by
  refine ⟨List.getElem?_concat_length, fits, fun j y there fits' => ?_⟩
  obtain there | ⟨rfl, rfl⟩ := getElem?_append_cases there
  · have := (List.getElem?_eq_some_iff.mp there).1
    have := longest j y there fits'
    omega
  · exact .inr ⟨rfl, le_rfl⟩

/-- The search finds the rule that wins, and none only where none fits. -/
theorem winnerOf_spec (rules : List Rule) (label : BitVec 32) :
    (winnerOf rules label = none ∧ ∀ y ∈ rules, ¬ y.Fits label)
    ∨ ∃ i r, winnerOf rules label = some (i, r) ∧ Wins rules label i r := by
  induction rules using List.reverseRecOn with
  | nil => exact .inl ⟨rfl, nofun⟩
  | append_singleton rules x ih =>
    rw [winnerOf_append]
    by_cases fits : x.Fits label
    · refine .inr ?_
      have matched : x.matches label = true := (x.matches_iff label).mpr fits
      obtain ⟨e, unfit⟩ | ⟨i, r, e, wins⟩ := ih
      · refine ⟨rules.length, x, ?_, wins_last fits fun j y there fits' => absurd fits' (unfit y (List.mem_of_getElem? there))⟩
        rw [e, betterRule, if_pos matched]
      · by_cases longer : r.length ≤ x.length
        · refine ⟨rules.length, x, ?_, wins_last fits fun j y there fits' => ?_⟩
          · simp only [e, betterRule, if_pos matched, if_pos longer]
          · obtain ⟨-, -, best⟩ := wins
            have := best j y there fits'
            omega
        · refine ⟨i, r, ?_, wins.kept fun _ => Nat.not_le.mp longer⟩
          simp only [e, betterRule, if_pos matched, if_neg longer]
    · have passed (best : Option (Nat × Rule)) : betterRule label best (x, rules.length) = best :=
        if_neg (mt (x.matches_iff label).mp fits)
      rw [passed]
      obtain ⟨e, unfit⟩ | ⟨i, r, e, wins⟩ := ih
      · refine .inl ⟨e, fun y hy => ?_⟩
        obtain hy | rfl := List.mem_append.mp hy |>.imp_right List.mem_singleton.mp
        · exact unfit y hy
        · exact fits
      · exact .inr ⟨i, r, e, wins.kept fun h => absurd h fits⟩

/-- Two rules cannot both win. -/
theorem Wins.unique (a : Wins rules label i r) (b : Wins rules label j x) : (i, r) = (j, x) := by
  obtain ⟨atI, fitsI, bestI⟩ := a
  obtain ⟨atJ, fitsJ, bestJ⟩ := b
  have := bestI j x atJ fitsJ
  have := bestJ i r atI fitsI
  obtain rfl : i = j := by omega
  rw [Option.some.inj (atI.symm.trans atJ)]

theorem winnerOf_eq_some : winnerOf rules label = some (i, r) ↔ Wins rules label i r := by
  obtain ⟨e, unfit⟩ | ⟨j, x, e, wins⟩ := winnerOf_spec rules label
  · rw [e]
    refine ⟨nofun, fun ⟨here, fits, _⟩ => absurd fits (unfit r (List.mem_of_getElem? here))⟩
  · rw [e]
    exact ⟨fun same => by cases same; exact wins, fun wins' => congrArg some (wins.unique wins')⟩

theorem winnerOf_eq_none : winnerOf rules label = none ↔ ∀ y ∈ rules, ¬ y.Fits label := by
  obtain ⟨e, unfit⟩ | ⟨j, x, e, here, fits, -⟩ := winnerOf_spec rules label
  · exact ⟨fun _ => unfit, fun _ => e⟩
  · rw [e]
    exact ⟨nofun, fun unfit => absurd fits (unfit x (List.mem_of_getElem? here))⟩

end

section
variable {g : Grading} {label : BitVec 32}

theorem Grading.ruleFor_none (none' : g.winner label = none) : g.ruleFor label = Rule.identity := by
  rw [Grading.ruleFor, none']
  rfl

theorem Grading.ruleFor_some {i : Nat} {r : Rule} (won : g.winner label = some (i, r)) : g.ruleFor label = r := by
  rw [Grading.ruleFor, won]
  rfl

theorem Grading.excludes_eq {frame : Nat} {x : Shot} (held : g.shotAt frame = some x) :
    g.excludes frame = (g.ruleFor x.label).exclude := by
  rw [Grading.excludes, held]

end

/-! ### The grade of a label (R150) -/

theorem fadeOf_auto {r : Rule} (mode : r.fadeMode = .auto) (reference : Nat) (f : FadeChannel) :
    fadeOf r reference f = if f.valid = true ∧ reference ≠ 0 then
      max (-400) (min 400 ((((reference : Int) - f.mean) * r.fadeGain).tdiv 16)) else 0 := by
  simp only [fadeOf, mode, clampInt]

theorem fadeOf_fixed {r : Rule} (mode : r.fadeMode = .fixed) (reference : Nat) (f : FadeChannel) :
    fadeOf r reference f = r.fixedFade := by
  simp only [fadeOf, mode]

theorem fadeOf_off {r : Rule} (mode : r.fadeMode = .off) (reference : Nat) (f : FadeChannel) : fadeOf r reference f = 0 := by
  simp only [fadeOf, mode]

theorem Device.gradeOfLabel_eq {d : Device} {reel : Reel} (loaded : d.loadedReel = some reel) (label : BitVec 32) :
    d.gradeOfLabel label =
      (let r := d.gu.ruleFor label
       let grade (c : ChannelRule) (reference : Nat) (f : FadeChannel) : ChannelGrade :=
        { black := effectiveBlack c (fadeOf r reference f), gain := c.gain, offset := c.offset }
       ⟨grade r.channels.red reel.fadeRef.red d.gu.fade.red, grade r.channels.green reel.fadeRef.green d.gu.fade.green,
        grade r.channels.blue reel.fadeRef.blue d.gu.fade.blue⟩) := by
  rw [Device.gradeOfLabel, Device.fades, loaded]
  rfl

/-- Settles O46. -/
theorem gradeFollowsTheLongestMatchingRule : Obligations.GradeFollowsTheLongestMatchingRule := by
  refine ⟨fun g label => ?_, fun label reel d loaded => ?_, fun frame before after x g shots early begun late => ?_⟩
  · intro fits
    refine ⟨fun i r => ?_, winnerOf_eq_none, fun none' => ?_, fun i r won => Grading.ruleFor_some won⟩
    · rw [← Vector.getElem?_toList]
      refine winnerOf_eq_some.trans (and_congr_right' (and_congr_right' ?_))
      simp only [Vector.getElem?_toList]
      exact Iff.rfl
    · rw [Grading.ruleFor_none none']
      exact ⟨rfl, rfl, by decide⟩
  · intro r grade
    have each (c : ChannelRule) (reference : Nat) (f : FadeChannel) :
        ({ black := effectiveBlack c (fadeOf r reference f), gain := c.gain, offset := c.offset } : ChannelGrade)
          = grade c reference f := by
      cases mode : r.fadeMode with
      | auto => simp only [grade, fadeOf_auto mode, effectiveBlack, clampInt, mode]
      | fixed => simp only [grade, fadeOf_fixed mode, effectiveBlack, clampInt, mode]
      | off => simp only [grade, fadeOf_off mode, effectiveBlack, clampInt, mode]
    rw [Device.gradeOfLabel_eq loaded]
    simp only [r, each]
  · have index := Grading.shotIndex_eq shots early begun late
    have held : g.shotAt frame = some x := by rw [Grading.shotAt, index, shots, getElem?_at]
    refine ⟨index, held, fun none' => ?_, fun i r won => ?_⟩
    · rw [Grading.excludes_eq held, Grading.ruleFor_none none']
      rfl
    · rw [Grading.excludes_eq held, Grading.ruleFor_some won]

end Sys2Proof.Machine
end

section
/-! RESTART_SUITE (R20, R37, R46, R70, R85, R102, R119, R139, R158, R164, R168, R179, R181). -/

namespace Sys2Proof.Machine

theorem Repair.emptied_occupancy (q : Repair) : q.emptied.occupancy = 0 := by
  rw [Repair.occupancy, List.countP_eq_zero.mpr fun st hst => ne_true_of_eq_false (q.emptied_idle st hst)]
  rfl

/-- A WORKING station is IDLE after a restart, and any other is as it was. -/
theorem Device.restarted_station (d : Device) {n : Nat} (below : n < 8) :
    d.restarted.station n =
      if (d.station n).state.isWorking then { d.station n with state := .idle } else d.station n := by
  have within : d.rq.stations[n]? = some (d.station n) := by simp [Device.station, below]
  rw [Device.station, show d.restarted.rq = d.rq.emptied from rfl, Repair.emptied, Vector.getElem?_map, within]
  rfl

/-- Settles O52. -/
theorem restartSuiteAbandonsTheSession : Obligations.RestartSuiteAbandonsTheSession := by
  intro s
  have stations (n : Nat) (below : n < 8) : (s.dev.restarted.station n).mask = (s.dev.station n).mask
      ∧ ((s.dev.station n).state = .offline → (s.dev.restarted.station n).state = .offline)
      ∧ ((s.dev.station n).state ≠ .offline → (s.dev.restarted.station n).state = .idle) := by
    rw [s.dev.restarted_station below]
    cases state : (s.dev.station n).state <;> simp [state, StationState.isWorking, StationState.held?]
  exact ⟨s.dev.restarted, State.gives_of .restartSuite (fun _ => rfl) rfl rfl, rfl, rfl, rfl, rfl, rfl, rfl, rfl, rfl, rfl,
    rfl, rfl, rfl, rfl, rfl, rfl, rfl, rfl, rfl, rfl, rfl, rfl, rfl, rfl, rfl, rfl, rfl, rfl, rfl, rfl, rfl, rfl, rfl, rfl,
    rfl, rfl, s.dev.rq.emptied_occupancy, stations, rfl, rfl, rfl, rfl, rfl, rfl, Counters.zero_all_zero,
    Counters.zero_all_zero, rfl, rfl, rfl, rfl, rfl⟩

end Sys2Proof.Machine
end

section
/-! The layouts: fields, records and codes, as 12.5, 12.6 and R183 give them. -/

namespace Sys2Proof.Machine

/-! ### Fields (R183) -/

/-- The byte of weight 2^s of a value of w bits, where the value's own bits reach that far. -/
theorem extractLsb'_ofNat {w s : Nat} (n : Nat) (h : s + 8 ≤ w) :
    (BitVec.ofNat w n).extractLsb' s 8 = BitVec.ofNat 8 (n / 2 ^ s) := by
  refine BitVec.eq_of_getLsbD_eq fun i below => ?_
  rw [BitVec.getLsbD_extractLsb', BitVec.getLsbD_ofNat, BitVec.getLsbD_ofNat, ← Nat.shiftRight_eq_div_pow,
    Nat.testBit_shiftRight]
  simp [show s + i < w by omega]

theorem u16_eq (n : Nat) : u16 n = [BitVec.ofNat 8 (n / 256), BitVec.ofNat 8 n] := by
  rw [u16, be16, extractLsb'_ofNat n (by decide), extractLsb'_ofNat n (by decide), pow_zero, Nat.div_one]
  norm_num

theorem u32_eq (n : Nat) : u32 n = u16 (n / 65536) ++ u16 n := by
  rw [u16_eq, u16_eq, u32, be32, extractLsb'_ofNat n (by decide), extractLsb'_ofNat n (by decide),
    extractLsb'_ofNat n (by decide), extractLsb'_ofNat n (by decide), Nat.div_div_eq_div_mul, pow_zero, Nat.div_one]
  norm_num

theorem ofInt_eq_ofNat (w : Nat) (z : Int) : BitVec.ofInt w z = BitVec.ofNat w (z % 2 ^ w).toNat := by
  refine BitVec.eq_of_toNat_eq ?_
  have below := (BitVec.ofInt w z).isLt
  rw [BitVec.toNat_ofInt] at below
  rw [BitVec.toNat_ofInt, BitVec.toNat_ofNat]
  norm_cast at below ⊢
  exact (Nat.mod_eq_of_lt below).symm

theorem i8_eq (z : Int) : i8 z = u8 (z % 256).toNat := by
  rw [i8, ofInt_eq_ofNat]
  rfl

theorem i16_eq (z : Int) : i16 z = u16 (z % 65536).toNat := by
  rw [i16, ofInt_eq_ofNat]
  rfl

theorem be16_eq (x : BitVec 16) : be16 x = u16 x.toNat := by
  rw [u16, BitVec.ofNat_toNat, BitVec.setWidth_eq]

theorem be32_eq (x : BitVec 32) : be32 x = u32 x.toNat := by
  rw [u32, BitVec.ofNat_toNat, BitVec.setWidth_eq]

theorem u48_eq (n : Nat) : u48 n = u16 (n / 4294967296) ++ u32 n := by
  rw [u48]
  norm_num

/-! ### The packed grade of an order entry (12.5) -/

theorem toNat_append_eq {v w : Nat} (x : BitVec v) (y : BitVec w) : (x ++ y).toNat = x.toNat * 2 ^ w + y.toNat := by
  rw [BitVec.toNat_append, ← Nat.shiftLeft_add_eq_or_of_lt y.isLt, Nat.shiftLeft_eq]

/-- The fields of a packed grade with their widths, from the most significant on. -/
def gradeFields (g : Grade) : List (Nat × Int) :=
  [(12, g.red.black), (12, g.green.black), (12, g.blue.black), (13, g.red.gain), (13, g.green.gain),
    (13, g.blue.gain), (10, g.red.offset), (10, g.green.offset), (10, g.blue.offset), (7, 0)]

theorem packedGrade_toNat (g : Grade) :
    (packedGrade g).toNat = (gradeFields g).foldl (fun n (width, z) => n * 2 ^ width + (z % 2 ^ width).toNat) 0 := by
  have natural (w x : Nat) : (((x : Int)) % 2 ^ w).toNat = (BitVec.ofNat w x).toNat := by
    rw [BitVec.toNat_ofNat]
    norm_cast
  have integral (w : Nat) (z : Int) : (z % 2 ^ w).toNat = (BitVec.ofInt w z).toNat := by
    rw [BitVec.toNat_ofInt]
    norm_cast
  simp only [packedGrade, BitVec.toNat_cast, toNat_append_eq, gradeFields, List.foldl_cons, List.foldl_nil, natural]
  simp only [integral, Nat.zero_mul, Nat.zero_add]
  rfl

theorem packedBytes_eq (x : BitVec 112) :
    packedBytes x = [13, 12, 11, 10, 9, 8, 7, 6, 5, 4, 3, 2, 1, 0].map fun i => BitVec.ofNat 8 (x.toNat / 256 ^ i) := by
  have byte (i : Nat) : x.extractLsb' (8 * i) 8 = BitVec.ofNat 8 (x.toNat / 256 ^ i) := by
    rw [BitVec.extractLsb', Nat.shiftRight_eq_div_pow, Nat.pow_mul]
  simp only [packedBytes, byte]
  rfl

/-! ### Absent values (R183) -/

/-- What a value that may be absent is written as. -/
def orAbsent {α β : Type} (absent : β) (f : α → β) : Option α → β
  | some a => f a
  | none => absent

section
variable {α : Type}

theorem u8?_map (f : α → Nat) (x : Option α) : u8? (x.map f) = u8 (orAbsent 255 f x) := by cases x <;> rfl

theorem u16?_map (f : α → Nat) (x : Option α) : u16? (x.map f) = u16 (orAbsent 65535 f x) := by cases x <;> rfl

theorem present_map (width : Nat) (f : α → List Byte) (x : Option α) :
    present width (x.map f) = orAbsent (u8 0 ++ List.replicate width 0) (fun a => u8 1 ++ f a) x := by cases x <;> rfl

end

/-- An absent field of one or two bytes is all ones (R183, log 11). -/
theorem unsized_none (f : Config.UnsizedField) :
    unsized f none =
      if fieldWidth f = 1 then u8 255 else if fieldWidth f = 2 then u16 65535
      else unsized f (some (Config.absentValue f)) := by
  have pos := fieldWidth_pos f
  simp only [unsized]
  by_cases one : fieldWidth f = 1
  · simp only [one]
    rfl
  by_cases two : fieldWidth f = 2
  · simp only [two]
    rfl
  rw [if_neg (show ¬ fieldWidth f ≤ 2 by omega), if_neg one, if_neg two]

/-! ### Records (12.5) -/

theorem Reel.bytes_eq (now : Nat) (r : Reel) :
    r.bytes now =
      u32 r.id ++ u16 r.length ++ be32 r.label ++ u8 (r.cls.code + 16 * r.home.code) ++ u8 r.state.code
        ++ u8 (r.gauge.code + (if r.permit then 2 else 0) + (if r.graded then 4 else 0) + (if r.sessionLost then 8 else 0)
          + (if r.state.slot?.isSome then 16 else 0))
        ++ u8 (r.state.slot?.getD 0) ++ u8 r.passes ++ u16 r.shrinkage ++ u16 r.passTotal ++ u16 r.fadeRef.red
        ++ u16 r.fadeRef.green ++ u16 r.fadeRef.blue ++ u16 r.deferred
        ++ u32 ((r.state.deadline?.map (· - now)).getD 0) := by
  simp only [Reel.bytes, PerChannel.toList, List.flatMap_cons, List.flatMap_nil, List.append_nil, List.append_assoc]

theorem gradeBytes_eq (g : Grade) :
    gradeBytes g =
      u16 g.red.black ++ u16 g.green.black ++ u16 g.blue.black ++ u16 g.red.gain ++ u16 g.green.gain ++ u16 g.blue.gain
        ++ i16 g.red.offset ++ i16 g.green.offset ++ i16 g.blue.offset := by
  simp only [gradeBytes, PerChannel.toList, List.flatMap_cons, List.flatMap_nil, List.append_nil, List.append_assoc]

theorem Rule.bytes_eq (index : Nat) (r : Rule) :
    r.bytes index = u8 index ++ flag r.enabled ++ be32 r.key ++ u8 r.length ++ r.channels.red.bytes
      ++ r.channels.green.bytes ++ r.channels.blue.bytes ++ u8 r.fadeMode.code ++ i16 r.fixedFade ++ u8 r.fadeGain
      ++ flag r.exclude := by
  simp only [Rule.bytes, PerChannel.toList, List.flatMap_cons, List.flatMap_nil, List.append_nil, List.append_assoc]

theorem Order.entryBytes_eq (now : Nat) (o : Order) :
    o.entryBytes now =
      (let packed := (gradeFields o.grade).foldl (fun n (width, z) => n * 2 ^ width + (z % 2 ^ width).toNat) 0
       [o.tag] ++ u16 o.pass ++ u16 o.frame ++ u16 o.shot
        ++ [13, 12, 11, 10, 9, 8, 7, 6, 5, 4, 3, 2, 1, 0].map (fun i => BitVec.ofNat 8 (packed / 256 ^ i))
        ++ u32 o.issued.seconds ++ u8 (o.issued.micros / 65536) ++ u16 o.issued.micros ++ u16 (o.deadline - now)) := by
  rw [Order.entryBytes, packedBytes_eq, packedGrade_toNat]

/-! ### Codes (12.6) -/

/-- An enumeration whose codes run from 0, and which reads each of them back and no code above them, reads just its
codes. -/
theorem ofCode_iff_of {α : Type} {ofCode : Nat → Option α} {code : α → Nat} {all : List α} {bound : Nat}
    (codes : all.map code = List.range bound) (back : ∀ k, ofCode (code k) = some k)
    (above : ∀ n, ofCode (n + bound) = none) (n : Nat) (k : α) : ofCode n = some k ↔ code k = n := by
  refine ⟨fun known => ?_, fun e => e ▸ back k⟩
  by_cases below : n < bound
  · rw [← List.mem_range, ← codes] at below
    obtain ⟨j, -, rfl⟩ := List.mem_map.mp below
    rw [back, Option.some_inj] at known
    rw [known]
  · obtain ⟨m, rfl⟩ := Nat.exists_eq_add_of_le' (Nat.not_lt.mp below)
    rw [above] at known
    cases known

theorem DefectKind.ofCode_iff : ∀ (n : Nat) (k : DefectKind), DefectKind.ofCode n = some k ↔ k.code = n :=
  ofCode_iff_of (code := DefectKind.code) (all := DefectKind.all) (bound := 8) rfl (fun k => by cases k <;> rfl) fun _ => rfl

theorem Priority.ofCode_iff : ∀ (n : Nat) (k : Priority), Priority.ofCode n = some k ↔ k.code = n :=
  ofCode_iff_of (code := Priority.code) (all := [.p0, .p1, .p2, .p3]) (bound := 4) rfl Priority.ofCode_code fun _ => rfl

theorem Gauge.ofCode_iff : ∀ (n : Nat) (k : Gauge), Gauge.ofCode n = some k ↔ k.code = n :=
  ofCode_iff_of (code := Gauge.code) (all := [.g35, .g16]) (bound := 2) rfl (fun k => by cases k <;> rfl) fun _ => rfl

theorem DecayClass.ofCode_iff : ∀ (n : Nat) (k : DecayClass), DecayClass.ofCode n = some k ↔ k.code = n :=
  ofCode_iff_of (code := DecayClass.code) (all := [.a, .b, .c, .d]) (bound := 4) rfl (fun k => by cases k <;> rfl) fun _ => rfl

theorem Zone.ofCode_iff : ∀ (n : Nat) (k : Zone), Zone.ofCode n = some k ↔ k.code = n :=
  ofCode_iff_of (code := Zone.code) (all := [.cold, .frozen, .isolation, .workroom]) (bound := 4) rfl
    (fun k => by cases k <;> rfl) fun _ => rfl

theorem FadeMode.ofCode_iff : ∀ (n : Nat) (k : FadeMode), FadeMode.ofCode n = some k ↔ k.code = n :=
  ofCode_iff_of (code := FadeMode.code) (all := [.auto, .fixed, .off]) (bound := 3) rfl (fun k => by cases k <;> rfl) fun _ => rfl

theorem SlipAction.ofCode_iff : ∀ (n : Nat) (k : SlipAction), SlipAction.ofCode n = some k ↔ k.code = n :=
  ofCode_iff_of (code := SlipAction.code) (all := [.stop, .report]) (bound := 2) rfl (fun k => by cases k <;> rfl) fun _ => rfl

end Sys2Proof.Machine
end

section
/-! The readings of the catalogue, the vault and the transport (R19, R34 to R36, R68, R69, R84, R183). -/

namespace Sys2Proof.Machine

/-! ### LIST_REELS (R19) -/

section
variable {α : Type} {front back : List α}

/-- A page of 8: the front of a list, and whatever follows it begins the next page. -/
theorem page_take (short : front.length ≤ 8) (whole : front.length = 8 ∨ back = []) : (front ++ back).take 8 = front := by
  obtain eight | rfl := whole
  · exact List.take_left' eight
  · rw [List.append_nil, List.take_of_length_le short]

theorem page_next (short : front.length ≤ 8) (whole : front.length = 8 ∨ back = []) : (front ++ back)[8]? = back.head? := by
  obtain eight | rfl := whole
  · rw [List.getElem?_append_right (Nat.le_of_eq eight), eight, List.head?_eq_getElem?]
  · rw [List.append_nil, List.getElem?_eq_none short]
    rfl

end

section
variable {d : Device} {id : BitVec 32} {before front back : List Reel}

theorem answerListReels_page {start : BitVec 32}
    (listed : (if start = 0 then d.reels else d.reels.dropWhile fun r => decide (r.id ≠ start.toNat)) = front ++ back)
    (any : start = 0 ∨ front ≠ []) (short : front.length ≤ 8) (whole : front.length = 8 ∨ back = []) :
    answerListReels start d =
      (d, ⟨.ok, u8 front.length ++ front.flatMap (Reel.bytes d.time.runCounter)
        ++ u32 ((back.head?.map (·.id)).getD 0)⟩) := by
  have nonempty : ¬ (start ≠ 0 ∧ front ++ back = []) := fun ⟨start', none'⟩ =>
    any.elim start' fun some' => some' (List.append_eq_nil_iff.mp none').1
  simp only [answerListReels, listed, if_neg nonempty, page_take short whole, page_next short whole, counted, Device.now]

theorem answerListReels_start (held : d.reels = front ++ back) (short : front.length ≤ 8)
    (whole : front.length = 8 ∨ back = []) :
    answerListReels 0 d =
      (d, ⟨.ok, u8 front.length ++ front.flatMap (Reel.bytes d.time.runCounter)
        ++ u32 ((back.head?.map (·.id)).getD 0)⟩) :=
  answerListReels_page ((if_pos rfl).trans held) (.inl rfl) short whole

theorem answerListReels_from (nonzero : id ≠ 0) (held : d.reels = before ++ front ++ back)
    (passed : ∀ r ∈ before, r.id ≠ id.toNat) (first : front.head?.map (·.id) = some id.toNat) (short : front.length ≤ 8)
    (whole : front.length = 8 ∨ back = []) :
    answerListReels id d =
      (d, ⟨.ok, u8 front.length ++ front.flatMap (Reel.bytes d.time.runCounter)
        ++ u32 ((back.head?.map (·.id)).getD 0)⟩) := by
  cases front with
  | nil => cases first
  | cons r rest =>
    have here : r.id = id.toNat := Option.some.inj first
    refine answerListReels_page ((if_neg nonzero).trans ?_) (.inr (List.cons_ne_nil _ _)) short whole
    rw [held, List.append_assoc, List.dropWhile_append_of_pos (by simpa using passed), List.cons_append,
      List.dropWhile_cons_of_neg (by simp [here])]

theorem answerListReels_notFound (nonzero : id ≠ 0) (none' : ∀ r ∈ d.reels, r.id ≠ id.toNat) :
    answerListReels id d = refuse .notFound d := by
  have empty : d.reels.dropWhile (fun r => decide (r.id ≠ id.toNat)) = [] := by
    rw [List.dropWhile_eq_nil_iff]
    simpa using none'
  simp only [answerListReels, if_neg nonzero, empty]
  exact if_pos ⟨nonzero, trivial⟩

end

/-! ### Slots and zones (R34, R36) -/

theorem zoneOf_code (n : Nat) :
    (zoneOf n).code = if n < 128 then 0 else if n < 192 then 1 else if n < 240 then 2 else 3 := by
  simp only [zoneOf]
  split_ifs <;> rfl

section
variable {d : Device}

theorem answerSlotStatus_within {n : BitVec 16} (within : n.toNat ≤ 255) :
    answerSlotStatus n d =
      (d, ⟨.ok, u8 (zoneOf n.toNat).code ++ u8 (d.slot n.toNat).code ++ u32 ((d.slot n.toNat).owner?.getD 0)
        ++ u8? (((d.slot n.toNat).owner?.bind d.findReel).map (·.state.code))⟩) := by
  rw [answerSlotStatus, withSlot, if_neg (Nat.not_lt.mpr within)]

theorem Device.slotCount_eq (d : Device) (z : Zone) (code : Nat) :
    d.slotCount z code =
      ((List.range 256).filter fun n => decide (zoneOf n = z)).countP fun n => decide ((d.slot n).code = code) := by
  rw [List.countP_filter, Device.slotCount]
  exact List.countP_congr fun n _ => by simp [and_comm]

theorem Device.classesOf_eq (d : Device) (z : Zone) :
    d.classesOf z = (if d.allowed .a z then 1 else 0) + (if d.allowed .b z then 2 else 0)
      + (if d.allowed .c z then 4 else 0) + (if d.allowed .d z then 8 else 0) := by
  simp [Device.classesOf, DecayClass.all, DecayClass.code, Nat.add_assoc]

theorem answerZoneStatus_eq (z : Zone) :
    answerZoneStatus (BitVec.ofNat 8 z.code) d =
      (d, ⟨.ok, u16 (d.vault.zoneMinutes.get z) ++ u8 (d.slotCount z 0) ++ u8 (d.slotCount z 1) ++ u8 (d.slotCount z 2)
        ++ u8 (d.slotCount z 3) ++ u8 (d.classesOf z)⟩) := by
  rw [answerZoneStatus, withZone, Zone.ofCode_code]
  rfl

/-! ### Incident, transport and tracker (R68, R69, R84) -/

theorem answerReadIncident_eq :
    answerReadIncident d =
      (d, ⟨.ok, orAbsent (u8 0 ++ List.replicate 30 0) (fun i => u8 1 ++ i.bytes) d.tc.incident ++ u8 d.tc.incidentCount⟩) := by
  rw [answerReadIncident, present_map]

/-- TRANSPORT_STATUS, with each absent field in place. -/
theorem answerTransportStatus_eq :
    answerTransportStatus d =
      (let t := d.tc
       let x := t.settings
       (d, ⟨.ok, u8 t.state.code ++ u8 (orAbsent 255 (·.state.code) t.remembered) ++ u8 (orAbsent 255 (·.code) t.faultCause)
        ++ orAbsent (u8 0 ++ List.replicate 7 0)
          (fun p => u8 1 ++ u16 p.first ++ u16 p.last ++ u8 p.speed ++ u16 p.number) t.pass
        ++ u8 (orAbsent 255 (·.cause.code) t.pendingEnd) ++ u8 (orAbsent 255 (·.code) t.direction) ++ u16 (t.target.getD 65535)
        ++ orAbsent (u8 0 ++ List.replicate 2 0) (fun p => u8 1 ++ u16 p.head) d.pt
        ++ u8 d.speedDemand ++ u8 (if d.brake then 1 else 0) ++ u16 t.feed ++ u16 t.takeUp ++ u16 (d.limit.getD 65535)
        ++ u16 t.integrator ++ u16 (30 * x.faultTime) ++ u8 t.retries ++ u8 t.watch.code
        ++ u8 (if t.filmPresent then 1 else 0) ++ u8 (if t.strainLine then 1 else 0) ++ [Config.alignmentCode t.aligned]
        ++ u8 x.threadingTime ++ u16 x.faultTime ++ u8 x.retryPolicy.code ++ u16 x.relaxTime ++ u16 x.slipMargin
        ++ u8 x.slipAction.code ++ u16 (x.limitCap.getD 0)⟩)) := by
  simp only [answerTransportStatus, u8?_map, present_map, headBytes, Option.map_map, Function.comp_def, u16?, flag,
    PassRecord.bytes, TransportSettings.bytes, TransportSettings.top, List.append_assoc]

theorem headBytes_some (n : Nat) : headBytes (some n) = u8 1 ++ u16 n := rfl

theorem answerTrackerStatus_held {p : Tracker} (pt : d.pt = some p) :
    answerTrackerStatus d =
      (d, ⟨.ok, u8 p.gauge.code ++ unsized .nominalPitch (some p.gauge.nominal)
        ++ unsized .perforationsPerFrame (some p.gauge.perFrame) ++ unsized .smoothedPitch (some p.p16)
        ++ unsized .expectedPitch (some (p.p16 / 16))
        ++ orAbsent (u8 0 ++ List.replicate 4 0) (fun x => u8 1 ++ be32 x) p.last ++ unsized .perforationCount (some p.count)
        ++ u8 1 ++ u16 p.head ++ u16 (p.markA.getD 65535) ++ u16 (p.markB.getD 65535) ++ u16 p.latest ++ u16 p.peak⟩) := by
  simp only [answerTrackerStatus, pt, Option.map_some, Option.bind_some, present_map, headBytes_some, u8?, u16?,
    Option.getD_some, Tracker.pitch, List.append_assoc]

theorem answerTrackerStatus_none (none' : d.pt = none) :
    answerTrackerStatus d =
      (d, ⟨.ok, u8 255 ++ unsized .nominalPitch none ++ unsized .perforationsPerFrame none ++ unsized .smoothedPitch none
        ++ unsized .expectedPitch none ++ List.replicate 5 0 ++ unsized .perforationCount none ++ List.replicate 3 0
        ++ u16 65535 ++ u16 65535 ++ u16 65535 ++ u16 65535⟩) := by
  simp only [answerTrackerStatus, none']
  rfl

theorem answerCaptureStatus_eq :
    answerCaptureStatus d =
      (d, ⟨.ok, u8 d.cu.orders.length ++ d.cu.orders.flatMap (Order.entryBytes d.time.runCounter) ++ [d.cu.tagCounter]
        ++ u8 d.cu.gaps ++ u16 d.cu.timeout ++ u16 d.cu.dustLimit ++ u16 d.cu.scratchLimit⟩) := by
  simp only [answerCaptureStatus, counted, Capture.settingsBytes, Device.now, List.append_assoc]

end

end Sys2Proof.Machine
end

section
/-! The readings of the defect map, the repair queues and the grading unit (R116, R117, R135, R136, R144, R149, R155); and
all the readings together. -/

namespace Sys2Proof.Machine

section
variable {d : Device}

/-! ### The defect map (R116, R117) -/

theorem Defect.listed_iff (op : ListDefectsOperands) (r : Defect) :
    r.listed op = decide (op.start.toNat ≤ r.id ∧ op.kinds.getLsbD r.kind.code = true
      ∧ op.states.getLsbD r.state.code = true ∧ r.frame ≤ op.last.toNat ∧ op.first.toNat < r.frame + r.extent) := by
  simp only [Defect.listed, Bool.decide_and, Bool.decide_eq_true, Bool.and_assoc]

theorem answerListDefects_refused {op : ListDefectsOperands}
    (bad : 1023 < op.start.toNat ∨ op.first = 65535 ∨ op.last = 65535 ∨ op.last.toNat < op.first.toNat
      ∨ 63 < op.states.toNat) : answerListDefects op d = refuse .badValue d := by
  refine if_pos ?_
  obtain h | h | h | h | h := bad
  · exact .inl h
  · exact .inr (.inl (by rw [h]; decide))
  · exact .inr (.inr (.inl (by rw [h]; decide)))
  · exact .inr (.inr (.inr (.inl h)))
  · exact .inr (.inr (.inr (.inr h)))

theorem answerListDefects_page {op : ListDefectsOperands} {front back : List Defect} (start : op.start.toNat ≤ 1023)
    (last : op.last ≠ 65535) (ordered : op.first.toNat ≤ op.last.toNat) (states : op.states.toNat ≤ 63)
    (listed : d.dm.records.filter (·.listed op) = front ++ back) (short : front.length ≤ 8)
    (whole : front.length = 8 ∨ back = []) :
    answerListDefects op d =
      (d, ⟨.ok, u8 front.length ++ front.flatMap Defect.bytes ++ u16 (orAbsent 65535 (·.id) back.head?)⟩) := by
  have within : op.last.toNat ≤ 65534 := by
    have := op.last.isLt
    have : op.last.toNat ≠ 65535 := fun e => last (BitVec.eq_of_toNat_eq e)
    omega
  have valid : ¬ (1023 < op.start.toNat ∨ 65534 < op.first.toNat ∨ 65534 < op.last.toNat ∨ op.last.toNat < op.first.toNat
      ∨ 64 ≤ op.states.toNat) := by omega
  simp only [answerListDefects, if_neg valid, listed, page_take short whole, page_next short whole, counted, u16?_map]

theorem decide_and_beq (p : Prop) [Decidable p] (m n : Nat) : (decide p && (m == n)) = decide (p ∧ m = n) := by
  rw [Bool.decide_and]
  rfl

theorem DefectKind.route_mechanical (k : DefectKind) :
    (k.route == 0) = decide (k ∈ [DefectKind.perfDamage, .perfMissing, .splice, .tear, .warp]) := by
  cases k <;> rfl

theorem DefectKind.route_image (k : DefectKind) : (k.route == 1) = decide (k ∈ [DefectKind.dust, .scratch]) := by
  cases k <;> rfl

theorem DefectKind.route_rescan (k : DefectKind) : (k.route == 2) = decide (k ∈ [DefectKind.scanGap]) := by
  cases k <;> rfl

theorem DefectState.isQueued_eq (x : DefectState) : x.isQueued = decide (x.code = 1) := by cases x <;> rfl

theorem DefectState.isAssigned_eq (x : DefectState) : x.isAssigned = decide (x.code = 2) := by cases x <;> rfl

theorem flatMap_range_three (f : Nat → List Byte) : (List.range 3).flatMap f = f 0 ++ f 1 ++ f 2 := by
  simp [List.range_succ]

/-- The counts of a kind, state by state (R117). -/
def kindCounts (l : List Defect) (k : DefectKind) : List Byte :=
  (List.range 6).flatMap fun code => u16 (l.countP fun r => decide (r.kind = k ∧ r.state.code = code))

/-- The counts of a route's kinds, FOUND, QUEUED and ASSIGNED (R117). -/
def routeCounts (l : List Defect) (kinds : List DefectKind) : List Byte :=
  (List.range 3).flatMap fun code => u16 (l.countP fun r => decide (r.kind ∈ kinds ∧ r.state.code = code))

theorem kindCounts_all (l : List Defect) :
    (DefectKind.all.flatMap fun k => (List.range 6).flatMap fun s =>
      u16 (l.countP fun r => decide (r.kind = k) && r.state.code == s))
    = kindCounts l .perfDamage ++ kindCounts l .perfMissing ++ kindCounts l .splice ++ kindCounts l .tear
      ++ kindCounts l .warp ++ kindCounts l .dust ++ kindCounts l .scratch ++ kindCounts l .scanGap := by
  simp only [DefectKind.all, List.flatMap_cons, List.flatMap_nil, List.append_nil, List.append_assoc, decide_and_beq,
    kindCounts]

theorem routeCounts_all (l : List Defect) :
    ((List.range 3).flatMap fun route => (List.range 3).flatMap fun s =>
      u16 (l.countP fun r => r.kind.route == route && r.state.code == s))
    = routeCounts l [.perfDamage, .perfMissing, .splice, .tear, .warp] ++ routeCounts l [.dust, .scratch]
      ++ routeCounts l [.scanGap] := by
  rw [flatMap_range_three]
  simp only [DefectKind.route_mechanical, DefectKind.route_image, DefectKind.route_rescan, decide_and_beq, routeCounts]

theorem PerKind.flatMap_u8 (t : PerKind Nat) :
    t.toList.flatMap u8 = u8 t.perfDamage ++ u8 t.perfMissing ++ u8 t.splice ++ u8 t.tear ++ u8 t.warp ++ u8 t.dust
      ++ u8 t.scratch ++ u8 t.scanGap :=
  rfl

theorem answerDefectSummary_eq :
    answerDefectSummary d =
      (let l := d.dm.records
       let t := d.dm.thresholds
       (d, ⟨.ok, u16 l.length ++ u16 (1024 - l.length)
        ++ kindCounts l .perfDamage ++ kindCounts l .perfMissing ++ kindCounts l .splice ++ kindCounts l .tear
        ++ kindCounts l .warp ++ kindCounts l .dust ++ kindCounts l .scratch ++ kindCounts l .scanGap
        ++ routeCounts l [.perfDamage, .perfMissing, .splice, .tear, .warp] ++ routeCounts l [.dust, .scratch]
        ++ routeCounts l [.scanGap]
        ++ u16 (l.countP fun r => decide (r.state = .found ∧ r.refused = true))
        ++ u16 (l.countP fun r => decide (r.state.code = 1)) ++ u16 (l.countP fun r => decide (r.state.code = 2))
        ++ u16 (l.countP fun r => decide (r.kind = .scanGap ∧ r.state = .found))
        ++ u8 t.perfDamage ++ u8 t.perfMissing ++ u8 t.splice ++ u8 t.tear ++ u8 t.warp ++ u8 t.dust ++ u8 t.scratch
        ++ u8 t.scanGap⟩)) := by
  have waiting : (fun r : Defect => decide (r.state = .found) && r.refused) =
      fun r => decide (r.state = .found ∧ r.refused = true) := by
    funext r
    rw [Bool.decide_and, Bool.decide_eq_true]
  have gaps : Defect.openGap = fun r => decide (r.kind = .scanGap ∧ r.state = .found) := by
    funext r
    rw [Defect.openGap, Bool.decide_and]
  simp only [answerDefectSummary, kindCounts_all, routeCounts_all, waiting, gaps, DefectState.isQueued_eq,
    DefectState.isAssigned_eq, PerKind.flatMap_u8, List.append_assoc]

/-! ### The repair queues (R135, R136) -/

theorem answerQueueStatus_eq :
    answerQueueStatus d =
      (d, ⟨.ok, u8 d.rq.queues.p0.length ++ u8 d.rq.queues.p1.length ++ u8 d.rq.queues.p2.length
        ++ u8 d.rq.queues.p3.length ++ u8 d.rq.occupancy ++ u8 8 ++ d.rq.stations.toList.flatMap Station.bytes
        ++ u8 d.rq.undo.length ++ orAbsent (u8 0 ++ List.replicate 4 0)
          (fun u => u8 1 ++ (u16 u.defect ++ u8 u.station ++ u8 u.priority.code)) d.rq.undo.head?⟩) := by
  simp only [answerQueueStatus, counted, Vector.length_toList, present_map, UndoRecord.bytes, List.append_assoc]

theorem answerListQueue_refused {p n : Byte} (bad : 3 < p.toNat ∨ 191 < n.toNat) :
    answerListQueue p n d = refuse .badValue d := by
  rw [answerListQueue]
  split
  · rfl
  · rename_i known
    refine if_pos (bad.resolve_left fun above => ?_)
    rw [Priority.ofCode_above above] at known
    cases known

theorem answerListQueue_within {p : Priority} {n : Byte} (within : n.toNat ≤ 191) :
    answerListQueue (BitVec.ofNat 8 p.code) n d =
      (let listed := ((d.rq.queues.get p).drop n.toNat).take 16
       (d, ⟨.ok, u8 (d.rq.queues.get p).length ++ u8 listed.length
        ++ listed.flatMap fun e => u16 e.defect ++ u8 e.kind.code⟩)) := by
  simp only [answerListQueue, Priority.ofCode_byte, if_neg (Nat.not_lt.mpr within), counted, List.append_assoc]

/-! ### The grading unit (R144, R149, R155) -/

/-- The snapshot as a shot record holds it, after the byte that says whether there is one. -/
def snapshotBytes : Option Grade → List Byte
  | some g => u8 1 ++ gradeBytes g
  | none => List.replicate 19 0

theorem Shot.bytes_eq (index last : Nat) (x : Shot) :
    x.bytes index last = u16 index ++ u16 x.first ++ u16 last ++ be32 x.label
      ++ snapshotBytes x.snapshot ++ u16 x.clipRisk := by
  obtain ⟨first, label, snapshot, clipRisk⟩ := x
  cases snapshot with
  | none => rfl
  | some g => simp only [Shot.bytes, Option.isSome_some, flag, if_true, snapshotBytes, List.append_assoc]

theorem Device.reelLength_orAbsent (d : Device) : d.reelLength = orAbsent 0 (·.length) d.loadedReel := by
  rw [Device.reelLength]
  cases d.loadedReel <;> rfl

theorem answerListShots_within {n : BitVec 16} (within : n.toNat ≤ 511) :
    answerListShots n d =
      (let listed := (d.gu.shots.drop n.toNat).take 8
       let last (i : Nat) : Nat := d.gu.lastFrame (orAbsent 0 (·.length) d.loadedReel) i
       (d, ⟨.ok, u16 d.gu.shots.length ++ u8 listed.length
        ++ (listed.zipIdx n.toNat).flatMap (fun p => u16 p.2 ++ u16 p.1.first ++ u16 (last p.2) ++ be32 p.1.label
          ++ snapshotBytes p.1.snapshot ++ u16 p.1.clipRisk)
        ++ u16 (if n.toNat + 8 < d.gu.shots.length then n.toNat + 8 else 65535)⟩)) := by
  have next : u16? (if n.toNat + 8 < d.gu.shots.length then some (n.toNat + 8) else none)
      = u16 (if n.toNat + 8 < d.gu.shots.length then n.toNat + 8 else 65535) := by
    split <;> rfl
  simp only [answerListShots, if_neg (Nat.not_lt.mpr within), counted, List.length_zipIdx, Shot.bytes_eq, next,
    Device.reelLength_orAbsent, List.append_assoc]

/-- The lowest and the highest mean density seen. -/
def extremesBytes : Option (Nat × Nat) → List Byte
  | some (low, high) => u16 low ++ u16 high
  | none => u16 65535 ++ u16 65535

theorem FadeChannel.bytes_eq (x : FadeChannel) :
    x.bytes = u32 x.sum ++ unsized .accumulatorCount (some x.count) ++ u16 x.mean ++ u8 (if x.valid then 1 else 0)
      ++ extremesBytes x.extremes := by
  rw [FadeChannel.bytes, flag]
  cases x.extremes <;> simp only [u16?, Option.map_none, Option.map_some, Option.getD_none, Option.getD_some,
    extremesBytes, List.append_assoc]

section
variable {ref : FrameRef} {density : PerChannel (BitVec 16)} {frame : Nat} {x : Shot}

def winnerIndex : Option (Nat × Rule) → Nat
  | some (index, _) => index
  | none => 255

theorem winnerIndex_eq (x : Option (Nat × Rule)) : orAbsent 255 (·.1) x = winnerIndex x := by
  cases x <;> rfl

/-- What EVALUATE_GRADE says after the frame, the shot and the rule: the grade and the codes it gives. -/
def evaluated (g : Grade) (density : PerChannel (BitVec 16)) : List Byte :=
  let code (c : ChannelGrade) (density : BitVec 16) : List Byte :=
    unsized .outputCode (some (outputCode c (min 4095 density.toNat)))
  gradeBytes g ++ code g.red density.red ++ code g.green density.green ++ code g.blue density.blue

theorem evaluated_eq (g : Grade) (density : PerChannel (BitVec 16)) :
    evaluated g density = gradeBytes g
      ++ (outputCodes g (density.map clampDensity)).toList.flatMap fun code => unsized .outputCode (some code) := by
  simp only [evaluated, outputCodes, PerChannel.map, PerChannel.zipWith, PerChannel.toList, clampDensity, List.flatMap_cons,
    List.flatMap_nil, List.append_nil, List.append_assoc]

/-- A locked shot shows no rule and no fade. -/
theorem answerEvaluateGrade_locked (resolved : d.resolve ref = .ok frame) (held : d.gu.shotAt frame = some x) {g : Grade}
    (locked : x.snapshot = some g) :
    answerEvaluateGrade ref density d =
      (d, ⟨okOr (densityClamped density), u16 frame ++ u16 (d.gu.shotIndex frame)
        ++ (u8 1 ++ u8 255 ++ i16 (-32768) ++ i16 (-32768) ++ i16 (-32768)) ++ evaluated (d.gradeOfShot x) density⟩) := by
  rw [answerEvaluateGrade, withFrame_ok resolved]
  simp only [held, locked, Option.isSome_some, if_true, PerChannel.toList, List.flatMap_cons, List.flatMap_nil,
    List.append_nil, evaluated_eq, flag, u8?, i16?, Option.getD_none, List.append_assoc]

theorem answerEvaluateGrade_unlocked {reel : Reel} (resolved : d.resolve ref = .ok frame)
    (held : d.gu.shotAt frame = some x) (loaded : d.loadedReel = some reel) (unlocked : x.snapshot = none) :
    answerEvaluateGrade ref density d =
      (let r := d.gu.ruleFor x.label
       (d, ⟨okOr (densityClamped density), u16 frame ++ u16 (d.gu.shotIndex frame)
        ++ (u8 0 ++ u8 (winnerIndex (d.gu.winner x.label)) ++ i16 (fadeOf r reel.fadeRef.red d.gu.fade.red)
          ++ i16 (fadeOf r reel.fadeRef.green d.gu.fade.green) ++ i16 (fadeOf r reel.fadeRef.blue d.gu.fade.blue))
        ++ evaluated (d.gradeOfShot x) density⟩)) := by
  rw [answerEvaluateGrade, withFrame_ok resolved]
  simp only [held, unlocked, Option.isSome_none, Bool.false_eq_true, if_false, Device.fades, loaded, Option.map_some,
    Option.getD_some, PerChannel.zipWith, PerChannel.toList, List.flatMap_cons, List.flatMap_nil, List.append_nil,
    evaluated_eq, flag, u8?_map, winnerIndex_eq, i16?, List.append_assoc]

end

end

end Sys2Proof.Machine
end

section
/-! The readings together (R19, R34 to R36, R40, R68, R69, R84, R101, R116, R117, R135, R136, R144, R149, R155, R166, R180,
R183), and the layouts of 12.5 and codes of 12.6. -/

namespace Sys2Proof.Machine

theorem answerReadCounters_eq (d : Device) :
    answerReadCounters d =
      (d, ⟨.ok, d.snapshot.values.toList.flatMap u16
        ++ orAbsent (u8 0 ++ List.replicate 6 0) (fun t => u8 1 ++ u48 t) d.snapshot.time⟩) := by
  rw [answerReadCounters, counterBytes, present_map]

/-! ### The fields of TRANSPORT_STATUS that may be absent (R69, 12.6) -/

def rememberedCode : Option Remembered → Nat
  | some .winding => 3
  | some .running => 4
  | none => 255

theorem rememberedCode_eq (x : Option Remembered) : orAbsent 255 (·.state.code) x = rememberedCode x := by
  obtain _ | _ | _ := x <;> rfl

def faultCauseCode : Option FaultCause → Nat
  | some cause => cause.code
  | none => 255

theorem faultCauseCode_eq (x : Option FaultCause) : orAbsent 255 (·.code) x = faultCauseCode x := by
  cases x <;> rfl

def passBytes : Option PassRecord → List Byte
  | some p => u8 1 ++ u16 p.first ++ u16 p.last ++ u8 p.speed ++ u16 p.number
  | none => u8 0 ++ List.replicate 7 0

theorem passBytes_eq (x : Option PassRecord) :
    orAbsent (u8 0 ++ List.replicate 7 0) (fun p => u8 1 ++ u16 p.first ++ u16 p.last ++ u8 p.speed ++ u16 p.number) x
      = passBytes x := by
  cases x <;> rfl

def pendingEndCode : Option PendingEnd → Nat
  | some .hostStop => 1
  | some .condition => 2
  | some .pipeline => 3
  | none => 255

theorem pendingEndCode_eq (x : Option PendingEnd) : orAbsent 255 (·.cause.code) x = pendingEndCode x := by
  obtain _ | _ | _ | _ := x <;> rfl

def directionCode : Option Direction → Nat
  | some .forward => 0
  | some .backward => 1
  | none => 255

theorem directionCode_eq (x : Option Direction) : orAbsent 255 (·.code) x = directionCode x := by
  obtain _ | _ | _ := x <;> rfl

def trackerHeadBytes : Option Tracker → List Byte
  | some p => u8 1 ++ u16 p.head
  | none => u8 0 ++ List.replicate 2 0

theorem trackerHeadBytes_eq (x : Option Tracker) :
    orAbsent (u8 0 ++ List.replicate 2 0) (fun p => u8 1 ++ u16 p.head) x = trackerHeadBytes x := by
  cases x <;> rfl

/-- Settles O53. -/
theorem readingsAnswerAndChangeNothing : Obligations.ReadingsAnswerAndChangeNothing := by
  refine ⟨fun s => ?_, ?_⟩
  · intro d now
    have reads (q : Request) {c : Envelope → Instr} {status : Status} {body : List Byte}
        (hc : ∀ via, exec (c via) s = .next (s.request via q)) (h : carryOut s.link q d = (d, ⟨status, body⟩)) :
        s.Gives c q.kind d status body :=
      State.gives_of q hc rfl h
    refine ⟨reads .identify (fun _ => rfl) rfl, reads .readClock (fun _ => rfl) rfl, reads .readCounters (fun _ => rfl) ?_,
      fun id r named => reads (.reelStatus id) (fun _ => rfl) (withReel_names named _),
      fun front back held short whole => reads (.listReels 0) (fun _ => rfl) ?_,
      fun id before front back nonzero held passed first short whole => reads (.listReels id) (fun _ => rfl) ?_,
      fun id nonzero none' => reads (.listReels id) (fun _ => rfl) (answerListReels_notFound nonzero none'),
      fun n within => ?_, fun n => reads (.listHold n) (fun _ => rfl) ?_,
      fun z => reads (.zoneStatus (BitVec.ofNat 8 z.code)) (fun _ => rfl) ?_,
      reads .readIncident (fun _ => rfl) ?_, fun f => ⟨fun x i => ⟨unsized_length f _, beBytes_getElem? _ x i⟩, unsized_none f⟩,
      reads .transportStatus (fun _ => rfl) ?_, fun p pt => reads .trackerStatus (fun _ => rfl) ?_,
      fun none' => reads .trackerStatus (fun _ => rfl) (answerTrackerStatus_none none'),
      reads .captureStatus (fun _ => rfl) answerCaptureStatus_eq, fun op => ⟨fun bad => reads (.listDefects op) (fun _ => rfl)
        (answerListDefects_refused bad), fun front back start last ordered states listed short whole =>
          reads (.listDefects op) (fun _ => rfl) ?_⟩,
      reads .defectSummary (fun _ => rfl) answerDefectSummary_eq, reads .queueStatus (fun _ => rfl) ?_,
      fun p n bad => reads (.listQueue p n) (fun _ => rfl) (answerListQueue_refused bad),
      fun p n within => reads (.listQueue (BitVec.ofNat 8 p.code) n) (fun _ => rfl) (answerListQueue_within within),
      fun n above => reads (.listShots n) (fun _ => rfl) (if_pos above),
      fun n within => reads (.listShots n) (fun _ => rfl) ?_, reads .fadeStatus (fun _ => rfl) ?_,
      fun ref density => ⟨fun e unresolved => reads (.evaluateGrade ref density) (fun _ => rfl) (withFrame_error unresolved _),
        fun frame x reel resolved held loaded => reads (.evaluateGrade ref density) (fun _ => rfl) ?_⟩⟩
    · refine (answerReadCounters_eq d).trans ?_
      cases d.snapshot.time <;> rfl
    · refine (answerListReels_start held short whole).trans ?_
      cases back <;> rfl
    · refine (answerListReels_from nonzero held passed first short whole).trans ?_
      cases back <;> rfl
    · have answer := answerSlotStatus_within (d := d) within
      rw [zoneOf_code] at answer
      have slot {body : List Byte} (h : answerSlotStatus n d = (d, ⟨.ok, body⟩)) :
          s.Gives (.slotStatus · n) .slotStatus d .ok body :=
        reads (.slotStatus n) (fun _ => rfl) h
      refine ⟨fun state => slot ?_, fun state => slot ?_, fun id r state found => slot ?_, fun id r state found => slot ?_⟩
      · rw [answer, state]
        rfl
      · rw [answer, state]
        rfl
      · rw [answer, state, SlotState.owner?, Option.bind_some, found]
        rfl
      · rw [answer, state, SlotState.owner?, Option.bind_some, found]
        rfl
    · simp only [carryOut, answerListHold, counted, List.append_assoc]
    · refine (answerZoneStatus_eq z).trans ?_
      simp only [Device.slotCount_eq, Device.classesOf_eq]
    · refine answerReadIncident_eq.trans ?_
      cases d.tc.incident <;> rfl
    · refine answerTransportStatus_eq.trans ?_
      simp only [rememberedCode_eq, faultCauseCode_eq, passBytes_eq, pendingEndCode_eq, directionCode_eq,
        trackerHeadBytes_eq]
      rfl
    · refine (answerTrackerStatus_held pt).trans ?_
      cases p.gauge <;> cases p.last <;> rfl
    · have same : (d.dm.records.filter fun r => r.listed op) = front ++ back := by
        simp only [Defect.listed_iff]
        exact listed
      refine (answerListDefects_page start last ordered states same short whole).trans ?_
      cases back <;> rfl
    · refine answerQueueStatus_eq.trans ?_
      cases d.rq.undo <;> rfl
    · refine (answerListShots_within within).trans ?_
      cases d.loadedReel <;> rfl
    · simp only [carryOut, answerFadeStatus, funext FadeChannel.bytes_eq]
      rfl
    · rw [← okOr_densityClamped]
      cases snapshot : x.snapshot with
      | none =>
        refine (answerEvaluateGrade_unlocked resolved held loaded snapshot).trans ?_
        rfl
      | some g =>
        refine (answerEvaluateGrade_locked resolved held snapshot).trans ?_
        rfl
  · refine ⟨fun n => ⟨rfl, u16_eq n, u32_eq n, u48_eq n⟩, fun z => ⟨i8_eq z, i16_eq z⟩, fun x y => ⟨be16_eq x, be32_eq y⟩,
      fun now r => ?_, fun r => ?_, gradeBytes_eq, fun index r => ?_, fun n => ?_, fun now o => Order.entryBytes_eq now o,
      fun x => ?_, fun i => ?_, rfl, rfl, fun n m k t => rfl, fun a b => rfl, rfl, rfl, rfl, rfl, fun p q n => rfl, rfl, rfl,
      rfl, rfl, rfl, rfl, rfl, fun n => ⟨DefectKind.ofCode_iff n, Priority.ofCode_iff n, Gauge.ofCode_iff n,
        DecayClass.ofCode_iff n, Zone.ofCode_iff n, FadeMode.ofCode_iff n, SlipAction.ofCode_iff n, rfl⟩⟩
    · refine (r.bytes_eq now).trans ?_
      cases r.state <;> rfl
    · rw [Defect.bytes]
      cases r.state <;> rfl
    · exact r.bytes_eq index
    · rfl
    · rw [Station.bytes]
      cases x.state <;> rfl
    · rw [Incident.bytes]
      cases i.pass <;> rfl

end Sys2Proof.Machine
end
